-- ==== Sys2Proof/Word.lean ====
section
/-! DEFINITION. The word of the host port and of the time input, and nothing else. -/

namespace Sys2Proof

/-- A 32-bit word: a register, a value of `now_us`, a duration (00_scope.md R9, 10_state.md R25). -/
abbrev Word := BitVec 32

end Sys2Proof
end

