-- ==== Sys2Proof/Config.lean ====
section
/-! DEFINITION. What is fixed when the block is built: the constants of 00_scope.md R7, the protocol table of R8,
and the parameters the spec leaves OPEN (93_implementation_defined.md U1 to U3). -/

namespace Sys2Proof

/-- An entry of `PROTOCOLS`: `(sync_units, pulse_units)` (00_scope.md R8). -/
structure Protocol where
  syncUnits  : Nat
  pulseUnits : Nat
deriving DecidableEq, Repr

/-- A protocol table: identifiers with their unit pairs, in ascending order of identifier (41_encoder.md R111). -/
abbrev ProtocolTable := List (Nat × Protocol)

namespace Config

/-- `SYNC_GAP_MIN`: a duration strictly greater than this is a candidate sync gap (R7). -/
def syncGapMin : Nat := 5000

/-- `SYNC_MATCH_WIN`: a gap repeats the stored gap when it is within this many µs of it (R7). -/
def syncMatchWin : Nat := 200

/-- `MAX_CHANGES`: the source's name; the capacity of the buffer is one more (R7). -/
def maxChanges : Nat := 67

/-- `BUF_CAP`: the number of entries of the timing buffer (R7). -/
def bufCap : Nat := 68

/-- `MIN_CHANGES`: a decode needs a window with more changes than this (R7). -/
def minChanges : Nat := 6

/-- `REPEATS_TO_DECODE`: the `repeat_count` that triggers a decode (R7). -/
def repeatsToDecode : Nat := 2

/-- The largest legal `BIT_WIDTH`, `CODE_TX_W` (R9). -/
def codeTxW : Nat := 32

/-- `PROTOCOLS`: the block specified takes exactly the default table (00_scope.md R8, 93 U4; log 6). -/
def protocols : ProtocolTable :=
  [(1, ⟨31, 3⟩), (2, ⟨10, 2⟩)]

/-- How much deeper than 1 the edge FIFO is: OPEN (00_scope.md R9, 93 U1; log 5). -/
opaque edgeFifoExtra : Nat

/-- `EDGE_FIFO_DEPTH`: OPEN, an integer at least 1 (00_scope.md R9, 93 U1; log 5). -/
def edgeFifoDepth : Nat := edgeFifoExtra + 1

/-- `CODEC_BASE`: the platform's choice; no rule depends on it (20_memory.md R74, 93 U2; log 13). -/
opaque codecBase : Word

/-- `OP_LATENCY_MAX`, in cycles of `clk`: no rule depends on it (70_reset_and_hazards.md R226, 93 U3; log 13). -/
opaque opLatencyMax : Nat

end Config
end Sys2Proof
end

