-- ==== Sys2Proof/Syntax.lean ====
section
/-! DEFINITION. The operations of the block as abstract syntax: the register slots (10_state.md R25), the ten commands
(30_encoding.md R77), the instructions (one per row of spec/opcode_table.json), and the three formats in which an
operation reaches the block's ports (30_encoding.md R75). -/

namespace Sys2Proof

/-- The sixteen word slots of the register space, in order of `ADDR` (10_state.md R25). -/
inductive Slot where
  | cmd | status | txCode | txCfg | txPulse | rxTol
  | rxCodeLo | rxCodeHi | rxMeta | rxUnit | rxTime | rxSeq
  | waveHigh | waveLow | unmapped38 | unmapped3C
deriving DecidableEq, Repr

/-- The ten commands (30_encoding.md R77). -/
inductive Command where
  | nop | txEnable | txDisable | rxEnable | rxDisable | send | cleanup
  | encLogic0 | encLogic1 | encSync
deriving DecidableEq, Repr

/-- The instructions: one constructor per row of the opcode table. The commands take their operands from registers
(30_encoding.md R81). -/
inductive Instr where
  /-- NOP, word 0x00000000 (40_host_interface.md R94). -/
  | nop
  /-- TX_ENABLE, word 0x00000001 (R95). -/
  | txEnable
  /-- TX_DISABLE, word 0x00000002 (R96). -/
  | txDisable
  /-- RX_ENABLE, word 0x00000003 (R97). -/
  | rxEnable
  /-- RX_DISABLE, word 0x00000004 (R98). -/
  | rxDisable
  /-- SEND, word 0x00000005 (42_transmitter.md R125). -/
  | send
  /-- CLEANUP, word 0x00000006 (R99). -/
  | cleanup
  /-- ENC_LOGIC0, word 0x00000008 (41_encoder.md R114). -/
  | encLogic0
  /-- ENC_LOGIC1, word 0x00000009 (41_encoder.md R115). -/
  | encLogic1
  /-- ENC_SYNC, word 0x0000000A (41_encoder.md R116). -/
  | encSync
  /-- REG_READ of a slot (R90). -/
  | regRead (slot : Slot)
  /-- REG_WRITE of a 32-bit value to a slot (R91, R92). -/
  | regWrite (slot : Slot) (data : Word)
  /-- EDGE: one strobe, with the value of `now_us` captured on it (30_encoding.md R83, 44_decoder.md R154). -/
  | edge (ts : Word)
deriving DecidableEq, Repr

/-- The instruction a command stands for. -/
def Command.toInstr : Command → Instr
  | .nop => .nop
  | .txEnable => .txEnable
  | .txDisable => .txDisable
  | .rxEnable => .rxEnable
  | .rxDisable => .rxDisable
  | .send => .send
  | .cleanup => .cleanup
  | .encLogic0 => .encLogic0
  | .encLogic1 => .encLogic1
  | .encSync => .encSync

/-- How an operation reaches the ports: the three formats of 30_encoding.md R75. The CMD format is a BUS write to
offset 0x00, which the opcode table lists separately (R75; log 8). -/
inductive Carrier where
  /-- A host write of the 32-bit word `w` to `CMD`. -/
  | cmd (w : Word)
  /-- One host access: the 5-bit `sel` is `DIR` above the 4-bit `ADDR` (R84), with the data lines. -/
  | bus (sel : BitVec 5) (data : Word)
  /-- One `edge_valid` strobe: it carries no bits. -/
  | edge
deriving DecidableEq, Repr

end Sys2Proof
end

