-- ==== Sys2Proof/WellFormed.lean ====
section
/-! DEFINITION. Well-formedness. Every operand of an instruction has a type that holds exactly the values its encoding
admits (a slot, a 32-bit word), so every `Instr` is well-formed and has no check of its own. What can be ill-formed is
a carrier (a BUS read that drives write data) and a protocol table (00_scope.md R8). -/

namespace Sys2Proof

/-- A carrier as a host presents it: a BUS read drives no write data (30_encoding.md R75; log 16). -/
def Carrier.wf : Carrier → Bool
  | .cmd _ => true
  | .bus sel data => sel.getLsbD 4 || data == 0#32
  | .edge => true

/-- An entry of the table has an identifier of 1 to 15 and units of 1 to 255 (00_scope.md R8). -/
def ProtocolTable.entryWf (e : Nat × Protocol) : Bool :=
  (1 ≤ e.1 && e.1 ≤ 15) && (1 ≤ e.2.syncUnits && e.2.syncUnits ≤ 255) &&
    (1 ≤ e.2.pulseUnits && e.2.pulseUnits ≤ 255)

/-- The identifiers rise strictly: the table is a map, listed in the order of 41_encoder.md R111. -/
def ProtocolTable.ascending (tbl : ProtocolTable) : Bool :=
  decide (tbl.Pairwise fun a b => a.1 < b.1)

/-- The table holds the two default entries (00_scope.md R8). -/
def ProtocolTable.hasDefaults (tbl : ProtocolTable) : Bool :=
  tbl.contains (1, ⟨31, 3⟩) && tbl.contains (2, ⟨10, 2⟩)

/-- A legal value of the parameter `PROTOCOLS` (00_scope.md R8). -/
def ProtocolTable.wf (tbl : ProtocolTable) : Bool :=
  tbl.all ProtocolTable.entryWf && ProtocolTable.ascending tbl && ProtocolTable.hasDefaults tbl

end Sys2Proof
end

