-- ==== Sys2Proof/Decode.lean ====
section
/-! DEFINITION. Decoding what reaches the ports (30_encoding.md R75 to R86), total on every carrier and rejecting by
name, and the encoder. -/

namespace Sys2Proof

/-- Why a carrier is no instruction. -/
inductive Reject where
  /-- The word written to `CMD` is none of the ten (30_encoding.md R78, R79). -/
  | illegalCommand (w : Word)
deriving DecidableEq, Repr

/-- `RSV = w[31:8]` (30_encoding.md R75). -/
def cmdReserved (w : Word) : BitVec 24 := w.extractLsb' 8 24

/-- `OPC = w[7:0]` (30_encoding.md R75). -/
def cmdOpc (w : Word) : BitVec 8 := w.extractLsb' 0 8

/-- The opcode map (30_encoding.md R77); 0x07 and 0x0B to 0xFF are reserved (R78). -/
def commandOfOpc (opc : BitVec 8) : Option Command :=
  match opc with
  | 0x00#8 => some .nop
  | 0x01#8 => some .txEnable
  | 0x02#8 => some .txDisable
  | 0x03#8 => some .rxEnable
  | 0x04#8 => some .rxDisable
  | 0x05#8 => some .send
  | 0x06#8 => some .cleanup
  | 0x08#8 => some .encLogic0
  | 0x09#8 => some .encLogic1
  | 0x0A#8 => some .encSync
  | _ => none

/-- Command decode (30_encoding.md R76): the reserved bits first, then the opcode. -/
def decodeCommand (w : Word) : Option Command :=
  if cmdReserved w ≠ 0#24 then none else commandOfOpc (cmdOpc w)

/-- The slot that a 4-bit `ADDR` names (10_state.md R25; byte offset `ADDR * 4`, 30_encoding.md R84). -/
def Slot.ofAddr (a : BitVec 4) : Slot :=
  match a.toNat with
  | 0 => .cmd
  | 1 => .status
  | 2 => .txCode
  | 3 => .txCfg
  | 4 => .txPulse
  | 5 => .rxTol
  | 6 => .rxCodeLo
  | 7 => .rxCodeHi
  | 8 => .rxMeta
  | 9 => .rxUnit
  | 10 => .rxTime
  | 11 => .rxSeq
  | 12 => .waveHigh
  | 13 => .waveLow
  | 14 => .unmapped38
  | _ => .unmapped3C

/-- The access that a BUS carrier is: `DIR` is bit 4, 1 for a write, and `ADDR` is bits 3 to 0 (30_encoding.md R84). -/
def decodeBus (sel : BitVec 5) (data : Word) : Instr :=
  if sel.getLsbD 4 then .regWrite (Slot.ofAddr (sel.extractLsb' 0 4)) data
  else .regRead (Slot.ofAddr (sel.extractLsb' 0 4))

/-- The instruction that a carrier presents while the time input reads `now` (30_encoding.md R86: decoding is total). -/
def decode (now : Word) : Carrier → Except Reject Instr
  | .cmd w =>
    match decodeCommand w with
    | some c => .ok c.toInstr
    | none => .error (.illegalCommand w)
  | .bus sel data => .ok (decodeBus sel data)
  | .edge => .ok (.edge now)

/-! The encoder, from the same tables. -/

/-- The `ADDR` of a slot (10_state.md R25). -/
def Slot.addr : Slot → BitVec 4
  | .cmd => 0x0#4
  | .status => 0x1#4
  | .txCode => 0x2#4
  | .txCfg => 0x3#4
  | .txPulse => 0x4#4
  | .rxTol => 0x5#4
  | .rxCodeLo => 0x6#4
  | .rxCodeHi => 0x7#4
  | .rxMeta => 0x8#4
  | .rxUnit => 0x9#4
  | .rxTime => 0xA#4
  | .rxSeq => 0xB#4
  | .waveHigh => 0xC#4
  | .waveLow => 0xD#4
  | .unmapped38 => 0xE#4
  | .unmapped3C => 0xF#4

/-- The byte offset of a slot, `{reg_addr[5:2], 2'b00}` (10_state.md R21). -/
def Slot.offset (slot : Slot) : Nat := slot.addr.toNat * 4

/-- The `OPC` of a command (30_encoding.md R77). -/
def Command.opc : Command → BitVec 8
  | .nop => 0x00#8
  | .txEnable => 0x01#8
  | .txDisable => 0x02#8
  | .rxEnable => 0x03#8
  | .rxDisable => 0x04#8
  | .send => 0x05#8
  | .cleanup => 0x06#8
  | .encLogic0 => 0x08#8
  | .encLogic1 => 0x09#8
  | .encSync => 0x0A#8

/-- The word of a command: `OPC` in bits 7 to 0 and zeros above (30_encoding.md R77). -/
def Command.word (c : Command) : Word := 0#24 ++ c.opc

/-- The value of the time input and the carrier that present an instruction. Only EDGE takes its operand from the time
input (30_encoding.md R83); for the others it is whatever it is, `now`. -/
def encode (now : Word) : Instr → Word × Carrier
  | .nop => (now, .cmd (Command.word .nop))
  | .txEnable => (now, .cmd (Command.word .txEnable))
  | .txDisable => (now, .cmd (Command.word .txDisable))
  | .rxEnable => (now, .cmd (Command.word .rxEnable))
  | .rxDisable => (now, .cmd (Command.word .rxDisable))
  | .send => (now, .cmd (Command.word .send))
  | .cleanup => (now, .cmd (Command.word .cleanup))
  | .encLogic0 => (now, .cmd (Command.word .encLogic0))
  | .encLogic1 => (now, .cmd (Command.word .encLogic1))
  | .encSync => (now, .cmd (Command.word .encSync))
  | .regRead slot => (now, .bus (0#1 ++ slot.addr) 0#32)
  | .regWrite slot data => (now, .bus (1#1 ++ slot.addr) data)
  | .edge ts => (ts, .edge)

/-! Words as spec/opcode_table.json numbers their bits. -/

/-- The carrier of a table row's bits: 32 bits are a CMD word; up to one byte is the 5-bit `{DIR, ADDR}` of a BUS access,
whose data lines are then 0; no bits are the EDGE strobe (30_encoding.md R84; log 2). Other sizes are no row. -/
def carrierOfTable (nbits w : Nat) : Option Carrier :=
  if nbits = 0 then some .edge
  else if nbits ≤ 8 then if w < 2 ^ 5 then some (.bus (BitVec.ofNat 5 w) 0#32) else none
  else if nbits = 32 then if w < 2 ^ 32 then some (.cmd (BitVec.ofNat 32 w)) else none
  else none

/-- The instruction that the decoder reads from an instruction whose bits are `w`, numbered as the table numbers them. -/
def decodeTableWord (nbits w : Nat) : Option Instr :=
  match carrierOfTable nbits w with
  | none => none
  | some c => (decode 0#32 c).toOption

end Sys2Proof
end

