-- ==== Sys2Proof/Machine/State.lean ====
section
/-! DEFINITION. The state of the block as plain data (10_state.md R25 to R49, 70_reset_and_hazards.md R210), the
operations its environment presents, and the reasons a step could stop. -/

namespace Sys2Proof.Machine

/-- The reasons a step could stop with a fault: none. The block has no trap mechanism (60_exceptions.md R200) and the
spec uses the treatment `fault` nowhere (93_implementation_defined.md), so no constructor exists and nothing raises one. -/
inductive Fault where
deriving DecidableEq, Repr

/-- The reasons a step could refuse an instruction. -/
inductive Refusal where
  /-- Raised by an arm of `exec` for an instruction that has no meaning yet; no arm raises it now. Safe: the model stops
  where the hardware would go on. -/
  | notModelled (mnemonic : String)
deriving DecidableEq, Repr

/-- `STATUS.MODE`: 0 OFF, 1 TX, 2 RX; 3 is never held (10_state.md R27). -/
inductive Mode where
  | off | tx | rx
deriving DecidableEq, Repr

/-- The result codes of `STATUS.ERR` (60_exceptions.md R185); 8 to 15 are never written. -/
inductive ErrCode where
  | ok | modeConflict | notEnabled | unsupportedProtocol | codeTooWide | invalidArgument | busy | illegalCommand
deriving DecidableEq, Repr

/-- A level of the pin (00_scope.md R19). -/
inductive Level where
  | low | high
deriving DecidableEq, Repr

/-- The direction of the pin, `pin_dir`: 0 input, 1 output (10_state.md R24). -/
inductive PinDir where
  | input | output
deriving DecidableEq, Repr

/-- A segment: a level that the transmitter drives for a duration in µs (00_scope.md R17). -/
structure Segment where
  level    : Level
  duration : Nat
deriving DecidableEq, Repr

/-- An element of the output trace (10_state.md R49). -/
inductive TraceItem where
  /-- A segment began (42_transmitter.md R126). -/
  | seg (level : Level) (duration : Nat)
  /-- The current segment was cut short (42_transmitter.md R135). -/
  | abort
  /-- A `pin_release` strobe (40_host_interface.md R99). -/
  | release
deriving DecidableEq, Repr

/-- The fields of `STATUS` (10_state.md R27). -/
structure Status where
  mode    : Mode
  busy    : Bool
  txAbort : Bool
  err     : ErrCode
  rxOvf   : Bool
  rxValid : Bool
deriving DecidableEq, Repr

/-- The registers the host may write, as words whose reserved bits read 0 (10_state.md R28 to R33). -/
structure HostRegs where
  txCode  : Word
  txCfg   : Word
  txPulse : Word
  rxTol   : Word
deriving DecidableEq, Repr

/-- The published result and its count (10_state.md R34 to R39). -/
structure ResultRegs where
  codeLo     : Word
  codeHi     : Word
  metaWord   : Word
  unitDelay  : Word
  timestamp  : Word
  seqCount   : Word
deriving DecidableEq, Repr

/-- `WAVE_HIGH` and `WAVE_LOW` (10_state.md R40). -/
structure WaveRegs where
  high : Word
  low  : Word
deriving DecidableEq, Repr

/-- The state that only the decoder writes: the timing buffer `T`, its write cursor, the repeat count and the last
timestamp (10_state.md R42 to R45). The counts are numbers; log 11 says why their widths hold. -/
structure Decoder where
  T           : Vector Word 68
  changeCount : Nat
  repeatCount : Nat
  lastTs      : Word
deriving DecidableEq, Repr

/-- The transmitter's sequencer: the latched operands of SEND and the position in the train (10_state.md R47). -/
structure Sequencer where
  code     : Word
  width    : BitVec 6
  proto    : BitVec 4
  pulse    : BitVec 16
  reps     : BitVec 8
  cur      : Option Segment
  rest     : List Segment
  segStart : Word
deriving DecidableEq, Repr

/-- The pin-control registers (10_state.md R24, R48). -/
structure Pins where
  dir    : PinDir
  out    : Level
  edgeEn : Bool
deriving DecidableEq, Repr

/-- One operation of the environment's order (00_scope.md R15, 20_memory.md R68). -/
inductive Op where
  /-- A host access, a command or an edge strobe at the ports (30_encoding.md R75). -/
  | port (c : Carrier)
  /-- The decoder takes the oldest captured edge event (44_decoder.md R154). -/
  | process
  /-- The transmitter looks whether its segment is over and steps on if it is (42_transmitter.md R133). -/
  | segStep
deriving DecidableEq, Repr

/-- An operation with the levels of the reset and time inputs that it sees (10_state.md R20, R22). -/
structure Event where
  rstN  : Bool
  nowUs : Word
  op    : Op
deriving DecidableEq, Repr

/-- The state. The last three fields are the model's own: values at the block's ports and the operations still to come
(log 1, log 3, log 4). -/
structure State where
  status  : Status
  regs    : HostRegs
  result  : ResultRegs
  wave    : WaveRegs
  decoder : Decoder
  efifo   : List Word
  tx      : Sequencer
  pins    : Pins
  trace   : List TraceItem
  nowUs   : Word
  rdata   : Word
  pending : List Event
deriving DecidableEq, Repr

/-- The state after reset (70_reset_and_hazards.md R210). `nowUs` and `pending` are the model's own (log 1, log 3);
`rdata` is 0 as R213 says. -/
def State.reset : State where
  status  := { mode := .off, busy := false, txAbort := false, err := .ok, rxOvf := false, rxValid := false }
  regs    := { txCode := 0x00000000#32, txCfg := 0x000A0118#32, txPulse := 0x0000015E#32, rxTol := 0x00000014#32 }
  result  := { codeLo := 0#32, codeHi := 0#32, metaWord := 0#32, unitDelay := 0#32, timestamp := 0#32, seqCount := 0#32 }
  wave    := { high := 0#32, low := 0#32 }
  decoder := { T := Vector.replicate 68 0#32, changeCount := 0, repeatCount := 0, lastTs := 0#32 }
  efifo   := []
  tx      := { code := 0#32, width := 0#6, proto := 0#4, pulse := 0#16, reps := 0#8, cur := none, rest := [], segStart := 0#32 }
  pins    := { dir := .input, out := .low, edgeEn := false }
  trace   := []
  nowUs   := 0#32
  rdata   := 0#32
  pending := []

end Sys2Proof.Machine
end

