-- ==== Sys2Proof/Machine/Flags.lean ====
section
/-! DEFINITION. The status flags: the codes of the fields of `STATUS` and the word a host reads (10_state.md R27, R53).
The block has no arithmetic condition codes (R53). -/

namespace Sys2Proof.Machine

/-- `STATUS.MODE` as the host reads it (10_state.md R27). -/
def Mode.bits : Mode → BitVec 2
  | .off => 0#2
  | .tx => 1#2
  | .rx => 2#2

/-- `STATUS.ERR` as the host reads it (60_exceptions.md R185). -/
def ErrCode.bits : ErrCode → BitVec 4
  | .ok => 0#4
  | .modeConflict => 1#4
  | .notEnabled => 2#4
  | .unsupportedProtocol => 3#4
  | .codeTooWide => 4#4
  | .invalidArgument => 5#4
  | .busy => 6#4
  | .illegalCommand => 7#4

/-- `STATUS` (10_state.md R27): RX_VALID [9], RX_OVF [8], ERR [7:4], TX_ABORT [3], BUSY [2], MODE [1:0], zeros above. -/
def Status.word (f : Status) : Word :=
  0#22 ++ BitVec.ofBool f.rxValid ++ BitVec.ofBool f.rxOvf ++ f.err.bits ++ BitVec.ofBool f.txAbort ++
    BitVec.ofBool f.busy ++ f.mode.bits

end Sys2Proof.Machine
end

