-- ==== Sys2Proof/Machine/Operands.lean ====
section
/-! DEFINITION. Operands: the fields of the host registers (30_encoding.md R81, R82), the value of every slot as a host
reads it, and what a plain register write stores. -/

namespace Sys2Proof.Machine

/-- `TX_CFG.BIT_WIDTH = TX_CFG[5:0]` (30_encoding.md R82). -/
def HostRegs.bitWidth (r : HostRegs) : BitVec 6 := r.txCfg.extractLsb' 0 6

/-- `TX_CFG.PROTOCOL = TX_CFG[11:8]` (30_encoding.md R82). -/
def HostRegs.protocol (r : HostRegs) : BitVec 4 := r.txCfg.extractLsb' 8 4

/-- `TX_CFG.REPEAT = TX_CFG[23:16]` (30_encoding.md R82). -/
def HostRegs.reps (r : HostRegs) : BitVec 8 := r.txCfg.extractLsb' 16 8

/-- `TX_PULSE.PULSE_US = TX_PULSE[15:0]` (30_encoding.md R82). -/
def HostRegs.pulseUs (r : HostRegs) : BitVec 16 := r.txPulse.extractLsb' 0 16

/-- `RX_TOL.TOL_PCT = RX_TOL[7:0]` (30_encoding.md R82). -/
def HostRegs.tolPct (r : HostRegs) : BitVec 8 := r.rxTol.extractLsb' 0 8

/-- The writable bits of `TX_CFG` (40_host_interface.md R91). -/
def txCfgMask : Word := 0x00FF0F3F#32

/-- The writable bits of `TX_PULSE` (40_host_interface.md R91). -/
def txPulseMask : Word := 0x0000FFFF#32

/-- The writable bits of `RX_TOL` (40_host_interface.md R91). -/
def rxTolMask : Word := 0x000000FF#32

/-- `value(off)`: what a host read of a slot returns (40_host_interface.md R90, 10_state.md R26 to R41). -/
def slotValue (s : State) : Slot → Word
  | .cmd => 0#32
  | .status => s.status.word
  | .txCode => s.regs.txCode
  | .txCfg => s.regs.txCfg
  | .txPulse => s.regs.txPulse
  | .rxTol => s.regs.rxTol
  | .rxCodeLo => s.result.codeLo
  | .rxCodeHi => s.result.codeHi
  | .rxMeta => s.result.metaWord
  | .rxUnit => s.result.unitDelay
  | .rxTime => s.result.timestamp
  | .rxSeq => s.result.seqCount
  | .waveHigh => s.wave.high
  | .waveLow => s.wave.low
  | .unmapped38 => 0#32
  | .unmapped3C => 0#32

/-- A plain write to a slot: the four RW registers keep their defined bits (40_host_interface.md R91), every other slot
but `CMD` ignores the write (R92). A write to `CMD` stores nothing either; its command is run elsewhere (10_state.md R26). -/
def storeSlot (slot : Slot) (v : Word) (r : HostRegs) : HostRegs :=
  match slot with
  | .txCode => { r with txCode := v }
  | .txCfg => { r with txCfg := v &&& txCfgMask }
  | .txPulse => { r with txPulse := v &&& txPulseMask }
  | .rxTol => { r with rxTol := v &&& rxTolMask }
  | .cmd | .status | .rxCodeLo | .rxCodeHi | .rxMeta | .rxUnit | .rxTime | .rxSeq | .waveHigh | .waveLow
  | .unmapped38 | .unmapped3C => r

end Sys2Proof.Machine
end

