-- ==== Sys2Proof/Machine/Ops.lean ====
section
/-! DEFINITION. The shared operations: reporting an error or a success, the outline every command follows, reading and
storing the timing buffer, driving the pin, ending and aborting a train. -/

namespace Sys2Proof.Machine

/-- `raise E`: the block's whole error entry (60_exceptions.md R189, 00_scope.md R12). It writes `STATUS.ERR` and nothing
else; nothing is saved, no handler runs, and so there is no return from it (R200). -/
def raise (e : ErrCode) (s : State) : State :=
  { s with status := { s.status with err := e } }

/-- The end of a command that passed its checks: `STATUS.ERR <- OK` (60_exceptions.md R194). -/
def succeed (s : State) : State :=
  { s with status := { s.status with err := .ok } }

/-- A command: its checks first, the first that fails raised; then all its effects and `ERR <- OK`, in one atomic
operation (40_host_interface.md R93). -/
def command {α : Type} (check : Except ErrCode α) (effect : α → State → State) (s : State) : State :=
  match check with
  | .error e => raise e s
  | .ok a => succeed (effect a s)

/-- Entry `i` of the timing buffer. The decoder's rules read entries 0 to 67 only (44_decoder.md R169); log 11. -/
def Decoder.entry (d : Decoder) (i : Nat) : Word := d.T.getD i 0#32

/-- `T[i] <- v` (44_decoder.md R165). -/
def Decoder.setEntry (d : Decoder) (i : Nat) (v : Word) : Decoder :=
  { d with T := d.T.setIfInBounds i v }

/-- `emit(level, d)`: a segment begins (42_transmitter.md R126). -/
def emit (g : Segment) (s : State) : State :=
  { s with
    pins := { s.pins with out := g.level }
    trace := s.trace ++ [.seg g.level g.duration] }

/-- `end_of_train()` (42_transmitter.md R134). -/
def endOfTrain (s : State) : State :=
  { s with
    tx := { s.tx with cur := none }
    status := { s.status with busy := false }
    pins := { s.pins with out := .low } }

/-- `abort_send()` (42_transmitter.md R135). It does not write `ERR`. -/
def abortSend (s : State) : State :=
  { s with
    trace := s.trace ++ [.abort]
    tx := { s.tx with cur := none, rest := [] }
    status := { s.status with busy := false, txAbort := true }
    pins := { s.pins with out := .low } }

/-- `pulse pin_release`, which the collaborator sees once (40_host_interface.md R99, 10_state.md R49). -/
def releasePin (s : State) : State :=
  { s with trace := s.trace ++ [.release] }

/-- What a host reads appears on `reg_rdata` (10_state.md R21; log 4). -/
def driveRdata (v : Word) (s : State) : State :=
  { s with rdata := v }

/-- The state that an operation sees: the time input reads `now` (10_state.md R22; log 3). -/
def sampleTime (now : Word) (s : State) : State :=
  { s with nowUs := now }

/-- The state while and right after `rst_n = 0` (70_reset_and_hazards.md R210, R212). The time input and the operations
still to come are not the block's (log 9). -/
def resetBlock (s : State) : State :=
  { State.reset with nowUs := s.nowUs, pending := s.pending }

end Sys2Proof.Machine
end

