-- ==== Sys2Proof/Machine/Encoder.lean ====
section
/-! DEFINITION. The protocol table's lookup, the three waveforms, and ENC_LOGIC0, ENC_LOGIC1, ENC_SYNC
(41_encoder.md), each in a block built with any table and then in the block of this spec (00_scope.md R8; log 6). -/

namespace Sys2Proof.Machine

/-- `lookup(id)`; `none` is `NotFound` (41_encoder.md R110). -/
def lookup (tbl : ProtocolTable) (id : Nat) : Option Protocol :=
  match tbl with
  | [] => none
  | (k, p) :: rest => if k = id then some p else lookup rest id

/-- What a waveform codes (41_encoder.md R112). -/
inductive Symbol where
  | logic0 | logic1 | sync
deriving DecidableEq, Repr

/-- The symbol of a bit (42_transmitter.md R128). -/
def Symbol.ofBit (b : Bool) : Symbol := if b then .logic1 else .logic0

/-- `wave(p, P, symbol)`: high and low durations in µs, exact (41_encoder.md R112, R113). -/
def wave (p : Protocol) (unit : Nat) : Symbol → Nat × Nat
  | .logic0 => (1 * unit, p.pulseUnits * unit)
  | .logic1 => (p.pulseUnits * unit, 1 * unit)
  | .sync => (1 * unit, p.syncUnits * unit)

/-- The protocol of the block's table that `TX_CFG.PROTOCOL` selects (30_encoding.md R81, 00_scope.md R8). -/
def selectedProtocol (tbl : ProtocolTable) (s : State) : Option Protocol :=
  lookup tbl s.regs.protocol.toNat

/-- The checks of ENC_*: the pulse first, then the protocol (60_exceptions.md R195, R191, R188). -/
def encCheck (tbl : ProtocolTable) (s : State) : Except ErrCode Protocol :=
  if s.regs.pulseUs = 0#16 then .error .invalidArgument
  else
    match selectedProtocol tbl s with
    | none => .error .unsupportedProtocol
    | some p => .ok p

/-- `WAVE_HIGH <- h; WAVE_LOW <- l` (41_encoder.md R114 to R116; the durations fit 32 bits, R113). -/
def setWave (w : Nat × Nat) (s : State) : State :=
  { s with wave := { high := BitVec.ofNat 32 w.1, low := BitVec.ofNat 32 w.2 } }

/-- The body shared by ENC_*: the waveform of a symbol under the selected protocol and pulse length. -/
def encCommand (tbl : ProtocolTable) (sym : Symbol) (s : State) : State :=
  command (encCheck tbl s) (fun p => setWave (wave p s.regs.pulseUs.toNat sym)) s

/-- ENC_LOGIC0 in a block built with a table (41_encoder.md R114, 00_scope.md R8). -/
def execEncLogic0Under (tbl : ProtocolTable) (s : State) : Host.Outcome State Fault Refusal :=
  .next (encCommand tbl .logic0 s)

/-- ENC_LOGIC0 (41_encoder.md R114). -/
def execEncLogic0 (s : State) : Host.Outcome State Fault Refusal := execEncLogic0Under Config.protocols s

/-- ENC_LOGIC1 in a block built with a table (41_encoder.md R115, 00_scope.md R8). -/
def execEncLogic1Under (tbl : ProtocolTable) (s : State) : Host.Outcome State Fault Refusal :=
  .next (encCommand tbl .logic1 s)

/-- ENC_LOGIC1 (41_encoder.md R115). -/
def execEncLogic1 (s : State) : Host.Outcome State Fault Refusal := execEncLogic1Under Config.protocols s

/-- ENC_SYNC in a block built with a table (41_encoder.md R116, 00_scope.md R8). -/
def execEncSyncUnder (tbl : ProtocolTable) (s : State) : Host.Outcome State Fault Refusal :=
  .next (encCommand tbl .sync s)

/-- ENC_SYNC (41_encoder.md R116). -/
def execEncSync (s : State) : Host.Outcome State Fault Refusal := execEncSyncUnder Config.protocols s

end Sys2Proof.Machine
end

