-- ==== Sys2Proof/Machine/Transmitter.lean ====
section
/-! DEFINITION. SEND, the serialisation of a code, the pulse train and the segment step (42_transmitter.md). -/

namespace Sys2Proof.Machine

/-- `bits(c, W)`: the low `W` bits of `c`, most significant first (42_transmitter.md R127). -/
def codeBits (c : Nat) : Nat → List Bool
  | 0 => []
  | w + 1 => c.testBit w :: codeBits c w

/-- A waveform as two segments, HIGH then LOW (41_encoder.md R112). -/
def waveSegments (w : Nat × Nat) : List Segment :=
  [⟨.high, w.1⟩, ⟨.low, w.2⟩]

/-- One repetition: the data waveforms in bit order and then one sync (42_transmitter.md R128). -/
def oneRep (p : Protocol) (unit : Nat) (bits : List Bool) : List Segment :=
  (bits.flatMap fun b => waveSegments (wave p unit (Symbol.ofBit b))) ++ waveSegments (wave p unit .sync)

/-- A list of segments repeated (42_transmitter.md R128). -/
def repeated (rep : List Segment) : Nat → List Segment
  | 0 => []
  | n + 1 => rep ++ repeated rep n

/-- `pulse_train(c, W, p, P, R)` (42_transmitter.md R128). -/
def pulseTrain (p : Protocol) (c w unit reps : Nat) : List Segment :=
  repeated (oneRep p unit (codeBits c w)) reps

/-- The checks of SEND in their order (42_transmitter.md R125, 60_exceptions.md R195). -/
def sendCheck (tbl : ProtocolTable) (s : State) : Except ErrCode Protocol :=
  if s.status.busy = true then .error .busy
  else if s.status.mode ≠ .tx then .error .notEnabled
  else if s.regs.bitWidth.toNat = 0 ∨ s.regs.bitWidth.toNat > Config.codeTxW ∨ s.regs.pulseUs = 0#16 then
    .error .invalidArgument
  else
    match selectedProtocol tbl s with
    | none => .error .unsupportedProtocol
    | some p =>
      if s.regs.txCode.toNat ≥ 2 ^ s.regs.bitWidth.toNat then .error .codeTooWide else .ok p

/-- SEND latches its five operands (42_transmitter.md R129). -/
def latchOperands (s : State) : State :=
  { s with
    tx := { s.tx with
      code := s.regs.txCode
      width := s.regs.bitWidth
      proto := s.regs.protocol
      pulse := s.regs.pulseUs
      reps := s.regs.reps } }

/-- `STATUS.TX_ABORT <- 0` (42_transmitter.md R132). -/
def clearAbort (s : State) : State :=
  { s with status := { s.status with txAbort := false } }

/-- A segment begins now: it is the one on the pin, `rest` is what follows, and it is emitted (42_transmitter.md R125,
R133). -/
def beginSegment (g : Segment) (rest : List Segment) (s : State) : State :=
  emit g { s with tx := { s.tx with cur := some g, rest := rest, segStart := s.nowUs } }

/-- A train starts; an empty one starts nothing (42_transmitter.md R125, R130, R131). -/
def startTrain (train : List Segment) (s : State) : State :=
  match train with
  | [] => { s with tx := { s.tx with cur := none, rest := [] } }
  | g :: rest =>
    let t := beginSegment g rest s
    { t with status := { t.status with busy := true } }

/-- The train of the operands that the registers hold now (42_transmitter.md R128). -/
def trainOf (p : Protocol) (r : HostRegs) : List Segment :=
  pulseTrain p r.txCode.toNat r.bitWidth.toNat r.pulseUs.toNat r.reps.toNat

/-- The effects of an accepted SEND (42_transmitter.md R125). -/
def acceptSend (p : Protocol) (s : State) : State :=
  startTrain (trainOf p s.regs) (clearAbort (latchOperands s))

/-- SEND in a block built with a table (42_transmitter.md R125, 00_scope.md R8). -/
def execSendUnder (tbl : ProtocolTable) (s : State) : Host.Outcome State Fault Refusal :=
  .next (command (sendCheck tbl s) acceptSend s)

/-- SEND (42_transmitter.md R125). -/
def execSend (s : State) : Host.Outcome State Fault Refusal := execSendUnder Config.protocols s

/-- The segment on the pin has lasted its duration: `(now_us - tx_seg_start) mod 2^32 >= d` (42_transmitter.md R133). -/
def segmentOver (s : State) (g : Segment) : Bool :=
  g.duration ≤ (s.nowUs - s.tx.segStart).toNat

/-- The segment step: enabled while BUSY once the segment on the pin is over (42_transmitter.md R133; log 7). When it is
not enabled nothing happens (log 10). -/
def segmentStep (s : State) : State :=
  match s.tx.cur with
  | none => s
  | some g =>
    if s.status.busy = true ∧ segmentOver s g = true then
      match s.tx.rest with
      | next :: rest => beginSegment next rest s
      | [] => endOfTrain s
    else s

end Sys2Proof.Machine
end

