-- ==== Sys2Proof/Machine/Modes.lean ====
section
/-! DEFINITION. NOP and the mode commands (40_host_interface.md R94 to R99). -/

namespace Sys2Proof.Machine

/-- NOP (40_host_interface.md R94). -/
def execNop (s : State) : Host.Outcome State Fault Refusal :=
  .next (succeed s)

/-- An enable fails only when the other mode is active (40_host_interface.md R95, R97; 60_exceptions.md R186). -/
def exclusiveWith (other : Mode) (s : State) : Except ErrCode Unit :=
  if s.status.mode = other then .error .modeConflict else .ok ()

/-- From OFF, the pin is driven LOW, becomes an output, and the mode is TX (40_host_interface.md R95). -/
def enableTx (s : State) : State :=
  if s.status.mode = .off then
    { s with
      pins := { s.pins with out := .low, dir := .output }
      status := { s.status with mode := .tx } }
  else s

/-- TX_ENABLE (40_host_interface.md R95). -/
def execTxEnable (s : State) : Host.Outcome State Fault Refusal :=
  .next (command (exclusiveWith .rx s) (fun _ => enableTx) s)

/-- A train in progress is aborted; nothing else happens when none is (40_host_interface.md R96, R99). -/
def abortIfBusy (s : State) : State :=
  if s.status.busy = true then abortSend s else s

/-- The effects of TX_DISABLE: only mode TX is left (40_host_interface.md R96). -/
def disableTx (s : State) : State :=
  if s.status.mode = .tx then
    let t := abortIfBusy s
    { t with
      pins := { t.pins with out := .low, dir := .input }
      status := { t.status with mode := .off } }
  else s

/-- TX_DISABLE (40_host_interface.md R96). -/
def execTxDisable (s : State) : Host.Outcome State Fault Refusal :=
  .next (succeed (disableTx s))

/-- The effects of RX_ENABLE: from OFF the pin becomes an input, edges are wanted and the mode is RX; RX_OVF is cleared
(40_host_interface.md R97). -/
def enableRx (s : State) : State :=
  let t :=
    if s.status.mode = .off then
      { s with
        pins := { s.pins with dir := .input, edgeEn := true }
        status := { s.status with mode := .rx } }
    else s
  { t with status := { t.status with rxOvf := false } }

/-- RX_ENABLE (40_host_interface.md R97). -/
def execRxEnable (s : State) : Host.Outcome State Fault Refusal :=
  .next (command (exclusiveWith .tx s) (fun _ => enableRx) s)

/-- The effects of RX_DISABLE: only mode RX is left, and captured events are dropped (40_host_interface.md R98). -/
def disableRx (s : State) : State :=
  if s.status.mode = .rx then
    { s with
      pins := { s.pins with edgeEn := false }
      efifo := []
      status := { s.status with mode := .off } }
  else s

/-- RX_DISABLE (40_host_interface.md R98). -/
def execRxDisable (s : State) : Host.Outcome State Fault Refusal :=
  .next (succeed (disableRx s))

/-- The pin and mode part of CLEANUP: whichever mode is active is left (40_host_interface.md R99). -/
def allOff (s : State) : State :=
  { s with
    pins := { out := .low, dir := .input, edgeEn := false }
    efifo := []
    status := { s.status with mode := .off } }

/-- The effects of CLEANUP (40_host_interface.md R99). -/
def cleanUp (s : State) : State :=
  releasePin (allOff (if s.status.mode = .tx then abortIfBusy s else s))

/-- CLEANUP (40_host_interface.md R99). -/
def execCleanup (s : State) : Host.Outcome State Fault Refusal :=
  .next (succeed (cleanUp s))

end Sys2Proof.Machine
end

