-- ==== Sys2Proof/Machine/Comparator.lean ====
section
/-! DEFINITION. The timing-tolerance comparator: pure functions of their inputs, on integers (43_comparator.md). -/

namespace Sys2Proof.Machine

/-- `|obs - exp|`, the absolute value of a mathematical integer (00_scope.md R13). -/
def distance (obs exp : Nat) : Nat := ((obs : Int) - (exp : Int)).natAbs

/-- `WITHIN(obs, exp, tol)`, inclusive (43_comparator.md R145). -/
def within (obs exp tol : Nat) : Bool := distance obs exp ≤ tol

/-- `MATCH(obs, k, ud, pct)`, inclusive (43_comparator.md R146). -/
def pulseMatch (obs k ud pct : Nat) : Bool := 100 * distance obs (k * ud) ≤ ud * pct

/-- The class of a pair of durations (43_comparator.md R147). -/
inductive PairClass where
  | bit0 | bit1 | invalid
deriving DecidableEq, Repr

/-- `CLASS(a, b)`: the BIT0 test comes first (43_comparator.md R147). -/
def classify (pulseUnits ud pct a b : Nat) : PairClass :=
  if pulseMatch a 1 ud pct ∧ pulseMatch b pulseUnits ud pct then .bit0
  else if pulseMatch a pulseUnits ud pct ∧ pulseMatch b 1 ud pct then .bit1
  else .invalid

/-- The sync-repeat comparator: a gap repeats the stored one within 200 µs (43_comparator.md R148). -/
def syncRepeats (d first : Nat) : Bool := within d first Config.syncMatchWin

end Sys2Proof.Machine
end

