-- ==== Sys2Proof/Machine/Receiver.lean ====
section
/-! DEFINITION. The receive side: the decode attempt, the decoder step as a pure function of its state and an event, the
publication of a result, and the capture (EDGE) and processing of edge events (44_decoder.md). -/

namespace Sys2Proof.Machine

/-- A decoded result `(code, bit_length, protocol, timestamp, unit_delay)` (10_state.md R38). -/
structure DecodedResult where
  code      : Nat
  bitLength : Nat
  protocol  : Nat
  timestamp : Word
  unitDelay : Nat
deriving DecidableEq, Repr

/-- One update of the accumulator; an INVALID pair clears it and the walk goes on (44_decoder.md R170). -/
def accumulate (acc : Nat) : PairClass → Nat
  | .bit0 => acc <<< 1
  | .bit1 => (acc ||| 1) <<< 1
  | .invalid => 0

/-- The unit estimate `ud = T[0] // sync_units` (44_decoder.md R167). -/
def unitEstimate (d : Decoder) (p : Protocol) : Nat := (d.entry 0).toNat / p.syncUnits

/-- The class of pair number `k`, `(T[2k+1], T[2k+2])`, under a protocol (44_decoder.md R169). -/
def pairClass (d : Decoder) (p : Protocol) (pct k : Nat) : PairClass :=
  classify p.pulseUnits (unitEstimate d p) pct (d.entry (2 * k + 1)).toNat (d.entry (2 * k + 2)).toNat

/-- The accumulator after the first `k` pairs in walk order (44_decoder.md R170). -/
def accAfter (d : Decoder) (p : Protocol) (pct : Nat) : Nat → Nat
  | 0 => 0
  | k + 1 => accumulate (accAfter d p pct k) (pairClass d p pct k)

/-- `code = acc >> 1` after the walk over the `n // 2` pairs (44_decoder.md R169, R172). -/
def attemptCode (d : Decoder) (p : Protocol) (pct n : Nat) : Nat :=
  accAfter d p pct (n / 2) >>> 1

/-- `attempt(id, n, ts)`; `none` is FAIL (44_decoder.md R173 to R175, R178). -/
def attempt (d : Decoder) (pct n : Nat) (ts : Word) (id : Nat) (p : Protocol) : Option DecodedResult :=
  if n > Config.minChanges ∧ attemptCode d p pct n ≠ 0 then
    some { code := attemptCode d p pct n
           bitLength := n / 2
           protocol := id
           timestamp := ts
           unitDelay := unitEstimate d p }
  else none

/-- `decode(n, ts)`: the protocols in ascending order, the first success wins (44_decoder.md R166). -/
def decodeWindow (tbl : ProtocolTable) (d : Decoder) (pct n : Nat) (ts : Word) : Option DecodedResult :=
  match tbl with
  | [] => none
  | (id, p) :: rest =>
    match attempt d pct n ts id p with
    | some r => some r
    | none => decodeWindow rest d pct n ts

/-- A candidate sync gap, strictly over the threshold (44_decoder.md R157). -/
def isGap (dur : Word) : Bool := dur.toNat > Config.syncGapMin

/-- The repeat test (44_decoder.md R159). -/
def isRepeat (dur : Word) (d : Decoder) : Bool :=
  d.changeCount > 0 && syncRepeats dur.toNat (d.entry 0).toNat

/-- Step 1a: the repeat bookkeeping, and the decode when `repeat_count` reaches 2 (44_decoder.md R160 to R162). -/
def repeatStep (tbl : ProtocolTable) (pct : Nat) (ts : Word) (d : Decoder) : Decoder × Option DecodedResult :=
  let counted := { d with repeatCount := d.repeatCount + 1, changeCount := d.changeCount - 1 }
  if counted.repeatCount = Config.repeatsToDecode then
    ({ counted with repeatCount := 0 }, decodeWindow tbl counted pct counted.changeCount ts)
  else (counted, none)

/-- Step 1, the sync test: on every gap the window restarts (44_decoder.md R157 to R163). -/
def syncTest (tbl : ProtocolTable) (pct : Nat) (ts dur : Word) (d : Decoder) : Decoder × Option DecodedResult :=
  if isGap dur then
    let after := if isRepeat dur d then repeatStep tbl pct ts d else (d, none)
    ({ after.1 with changeCount := 0 }, after.2)
  else (d, none)

/-- Step 2, the overflow test (44_decoder.md R164). -/
def overflowTest (d : Decoder) : Decoder :=
  if d.changeCount ≥ Config.bufCap then { d with changeCount := 0, repeatCount := 0 } else d

/-- Step 3, the store (44_decoder.md R165). -/
def storeDuration (dur : Word) (d : Decoder) : Decoder :=
  { d.setEntry d.changeCount dur with changeCount := d.changeCount + 1 }

/-- `d = (ts - last_ts) mod 2^32` (44_decoder.md R155). -/
def eventDuration (ts : Word) (d : Decoder) : Word := ts - d.lastTs

/-- `decoder_step(ts)`, a pure function of the decoder's state and the event (44_decoder.md R153, R156, R178). -/
def decoderStep (tbl : ProtocolTable) (pct : Nat) (ts : Word) (d : Decoder) : Decoder × Option DecodedResult :=
  let dur := eventDuration ts d
  let synced := syncTest tbl pct ts dur { d with lastTs := ts }
  (storeDuration dur (overflowTest synced.1), synced.2)

/-- `RX_META` of a result: PROTOCOL in [11:8], BIT_LENGTH in [5:0] (10_state.md R36). -/
def resultMeta (r : DecodedResult) : Word :=
  0#20 ++ BitVec.ofNat 4 r.protocol ++ 0#2 ++ BitVec.ofNat 6 r.bitLength

/-- `publish(r)`: the five result fields, `RX_SEQ` and RX_VALID in one operation (44_decoder.md R176). -/
def publish (r : DecodedResult) (s : State) : State :=
  { s with
    result :=
      { codeLo := BitVec.ofNat 32 r.code
        codeHi := 0#31 ++ BitVec.ofBool (r.code.testBit 32)
        metaWord := resultMeta r
        unitDelay := BitVec.ofNat 32 r.unitDelay
        timestamp := r.timestamp
        seqCount := s.result.seqCount + 1#32 }
    status := { s.status with rxValid := true } }

/-- A decode that matched nothing publishes nothing (44_decoder.md R177). -/
def publishIfAny (r : Option DecodedResult) (s : State) : State :=
  match r with
  | none => s
  | some r => publish r s

/-- `process()` in a block built with a table: the oldest captured event goes through the decoder; with none captured it is
not enabled (44_decoder.md R154, R168, 00_scope.md R8; log 10). -/
def processEdgeUnder (tbl : ProtocolTable) (s : State) : State :=
  match s.efifo with
  | [] => s
  | ts :: rest =>
    let out := decoderStep tbl s.regs.tolPct.toNat ts s.decoder
    publishIfAny out.2 { s with efifo := rest, decoder := out.1 }

/-- `process()` (44_decoder.md R154). -/
def processEdge (s : State) : State := processEdgeUnder Config.protocols s

/-- `capture(ts)`: an event outside RX is not delivered; one that finds the FIFO full is lost and sets RX_OVF
(44_decoder.md R154). -/
def captureEdge (ts : Word) (s : State) : State :=
  if s.status.mode ≠ .rx then s
  else if s.efifo.length = Config.edgeFifoDepth then { s with status := { s.status with rxOvf := true } }
  else { s with efifo := s.efifo ++ [ts] }

/-- EDGE: the capture of an edge event (44_decoder.md R154). -/
def execEdge (ts : Word) (s : State) : Host.Outcome State Fault Refusal :=
  .next (captureEdge ts s)

end Sys2Proof.Machine
end

