-- ==== Sys2Proof/Machine/HostAccess.lean ====
section
/-! DEFINITION. The host's register accesses, REG_READ and REG_WRITE, and a write to `CMD` (40_host_interface.md R90 to
R93, 10_state.md R26). -/

namespace Sys2Proof.Machine

/-- A command runs as its rule says, in a block built with a table (30_encoding.md R76, 00_scope.md R8). -/
def runCommand (tbl : ProtocolTable) (c : Command) (s : State) : Host.Outcome State Fault Refusal :=
  match c with
  | .nop => execNop s
  | .txEnable => execTxEnable s
  | .txDisable => execTxDisable s
  | .rxEnable => execRxEnable s
  | .rxDisable => execRxDisable s
  | .send => execSendUnder tbl s
  | .cleanup => execCleanup s
  | .encLogic0 => execEncLogic0Under tbl s
  | .encLogic1 => execEncLogic1Under tbl s
  | .encSync => execEncSyncUnder tbl s

/-- A command word that is none of the ten: ILLEGAL_COMMAND and no other effect (30_encoding.md R78, R79). -/
def illegalCommand (s : State) : Host.Outcome State Fault Refusal :=
  .next (raise .illegalCommand s)

/-- A write of `w` to `CMD` (30_encoding.md R76). -/
def writeCmd (tbl : ProtocolTable) (w : Word) (s : State) : Host.Outcome State Fault Refusal :=
  match decodeCommand w with
  | some c => runCommand tbl c s
  | none => illegalCommand s

/-- REG_READ (40_host_interface.md R90): the value on `reg_rdata`, no other effect. -/
def execRegRead (slot : Slot) (s : State) : Host.Outcome State Fault Refusal :=
  .next (driveRdata (slotValue s slot) s)

/-- REG_WRITE in a block built with a table (40_host_interface.md R91, R92, 00_scope.md R8): a write to `CMD` runs the command its data encodes, a write to a RW
register stores its defined bits, any other is ignored. -/
def execRegWriteUnder (tbl : ProtocolTable) (slot : Slot) (v : Word) (s : State) : Host.Outcome State Fault Refusal :=
  if slot = .cmd then writeCmd tbl v s else .next { s with regs := storeSlot slot v s.regs }

/-- REG_WRITE (40_host_interface.md R91, R92). -/
def execRegWrite (slot : Slot) (v : Word) (s : State) : Host.Outcome State Fault Refusal :=
  execRegWriteUnder Config.protocols slot v s

end Sys2Proof.Machine
end

