-- ==== Sys2Proof/Machine/Dispatch.lean ====
section
/-! DEFINITION. One arm per constructor of `Instr`, each one call of the instruction's meaning. -/

namespace Sys2Proof.Machine

def exec (i : Instr) (s : State) : Host.Outcome State Fault Refusal :=
  match i with
  | .nop => Sys2Proof.Machine.execNop s
  | .txEnable => Sys2Proof.Machine.execTxEnable s
  | .txDisable => Sys2Proof.Machine.execTxDisable s
  | .rxEnable => Sys2Proof.Machine.execRxEnable s
  | .rxDisable => Sys2Proof.Machine.execRxDisable s
  | .send => Sys2Proof.Machine.execSend s
  | .cleanup => Sys2Proof.Machine.execCleanup s
  | .encLogic0 => Sys2Proof.Machine.execEncLogic0 s
  | .encLogic1 => Sys2Proof.Machine.execEncLogic1 s
  | .encSync => Sys2Proof.Machine.execEncSync s
  | .regRead slot => Sys2Proof.Machine.execRegRead slot s
  | .regWrite slot data => Sys2Proof.Machine.execRegWrite slot data s
  | .edge ts => Sys2Proof.Machine.execEdge ts s

end Sys2Proof.Machine
end

