-- ==== Sys2Proof/Machine/Ports.lean ====
section
/-! DEFINITION. How an operation of the environment is taken: the reset input, the time input, a carrier at the ports,
the two internal operations (20_memory.md R66 to R68, 70_reset_and_hazards.md R210 to R213). Only the instructions and edge
processing depend on the protocol table, so the functions `…By` take these two; a block built with any table
(00_scope.md R8; log 6) and the block of this spec take its operations alike. -/

namespace Sys2Proof.Machine

/-- What the instructions of a block do: `exec`, or `execUnder` of a table. -/
abbrev Meanings := Instr → State → Host.Outcome State Fault Refusal

/-- A carrier at the ports: the instruction it decodes to runs; a word that is no command is ILLEGAL
(30_encoding.md R76, R86). -/
def presentBy (run : Meanings) (c : Carrier) (s : State) : Host.Outcome State Fault Refusal :=
  match decode s.nowUs c with
  | .ok i => run i s
  | .error (.illegalCommand _) => illegalCommand s

/-- One operation, atomically (20_memory.md R66). -/
def performBy (run : Meanings) (process : State → State) (op : Op) (s : State) : Host.Outcome State Fault Refusal :=
  match op with
  | .port c => presentBy run c s
  | .process => .next (process s)
  | .segStep => .next (segmentStep s)

/-- One operation with the inputs it sees: while `rst_n = 0` strobes are ignored and the state is the reset state
(70_reset_and_hazards.md R210, R213; log 9); otherwise the operation is performed at the time it sees. -/
def takeEventBy (run : Meanings) (process : State → State) (e : Event) (s : State) : Host.Outcome State Fault Refusal :=
  if e.rstN = false then .next (resetBlock (sampleTime e.nowUs s))
  else performBy run process e.op (sampleTime e.nowUs s)

/-- The next operation of the environment's order; with none left the block waits (70_reset_and_hazards.md R211; log 10). -/
def takeNextBy (run : Meanings) (process : State → State) (s : State) : Host.Outcome State Fault Refusal :=
  match s.pending with
  | [] => .next s
  | e :: rest => takeEventBy run process e { s with pending := rest }

/-- The instructions of a block built with a table, any legal one (00_scope.md R8); `exec` is the block of this spec. -/
def execUnder (tbl : ProtocolTable) (i : Instr) (s : State) : Host.Outcome State Fault Refusal :=
  match i with
  | .nop => execNop s
  | .txEnable => execTxEnable s
  | .txDisable => execTxDisable s
  | .rxEnable => execRxEnable s
  | .rxDisable => execRxDisable s
  | .send => execSendUnder tbl s
  | .cleanup => execCleanup s
  | .encLogic0 => execEncLogic0Under tbl s
  | .encLogic1 => execEncLogic1Under tbl s
  | .encSync => execEncSyncUnder tbl s
  | .regRead slot => execRegRead slot s
  | .regWrite slot data => execRegWriteUnder tbl slot data s
  | .edge ts => execEdge ts s

/-- A carrier at the ports of the block of this spec. -/
def present (c : Carrier) (s : State) : Host.Outcome State Fault Refusal := presentBy exec c s

/-- One operation of the block of this spec. -/
def perform (op : Op) (s : State) : Host.Outcome State Fault Refusal := performBy exec processEdge op s

/-- The next operation of the block of this spec. -/
def takeNext (s : State) : Host.Outcome State Fault Refusal := takeNextBy exec processEdge s

/-- The next operation of a block built with a table (00_scope.md R8). -/
def takeNextUnder (tbl : ProtocolTable) (s : State) : Host.Outcome State Fault Refusal :=
  takeNextBy (execUnder tbl) (processEdgeUnder tbl) s

/-- Present a carrier next, at the time the time input reads (log 2). -/
def presentNext (c : Carrier) (s : State) : State :=
  { s with pending := { rstN := true, nowUs := s.nowUs, op := .port c } :: s.pending }

end Sys2Proof.Machine
end

