-- ==== Sys2Proof/Machine/Step.lean ====
section
/-! DEFINITION. One step of the block, and how an instruction is placed to be the next step. -/

namespace Sys2Proof.Machine

/-- One step: the next operation of the environment's order. -/
def step (s : State) : Host.Outcome State Fault Refusal := takeNext s

/-- One step of a block built with a protocol table, the argument that 00_scope.md R8 asks for (log 6). -/
def stepUnder (tbl : ProtocolTable) (s : State) : Host.Outcome State Fault Refusal := takeNextUnder tbl s

/-- The state in which the very next step runs the instruction whose bits are `w`: its carrier is presented next
(log 2). Bits that are no row's present nothing. -/
def State.withFetchWord (s : State) (nbits w : Nat) : State :=
  match carrierOfTable nbits w with
  | some c => presentNext c s
  | none => s

end Sys2Proof.Machine
end

