-- ==== Sys2Proof/Safety.lean ====
section
/-! DEFINITION. What claims speak of: the invariants that hold between operations (10_state.md R50, 44_decoder.md R179),
quiescence (70_reset_and_hazards.md R227), a decoder fed with durations, and an environment that lets a train run out. -/

namespace Sys2Proof.Machine

/-- `0 <= change_count <= 68` and `repeat_count` is 0 or 1 (10_state.md R50). -/
def Decoder.CountsOk (d : Decoder) : Prop :=
  d.changeCount ≤ Config.bufCap ∧ d.repeatCount ≤ 1

/-- BUSY means mode TX with a segment on the pin; not BUSY means no segment on the pin and none left; edges wait only in
mode RX, and no more of them than the FIFO holds (10_state.md R46, R50). -/
def State.ActivityOk (s : State) : Prop :=
  (s.status.busy = true → s.status.mode = .tx ∧ s.tx.cur ≠ none) ∧
    (s.status.busy = false → s.tx.cur = none ∧ s.tx.rest = []) ∧
    (s.status.mode ≠ .rx → s.efifo = []) ∧ s.efifo.length ≤ Config.edgeFifoDepth

/-- The pin is an output exactly in mode TX, edges are wanted exactly in mode RX, and the driven level is that of the
segment on the pin, else LOW (10_state.md R24, 42_transmitter.md R137). -/
def State.PinsOk (s : State) : Prop :=
  (s.pins.dir = .output ↔ s.status.mode = .tx) ∧ (s.pins.edgeEn = true ↔ s.status.mode = .rx) ∧
    (∀ g, s.tx.cur = some g → s.pins.out = g.level) ∧ (s.tx.cur = none → s.pins.out = .low)

/-- The reserved bits of the registers read 0 (10_state.md R29, R32, R33, R35, R36). -/
def State.ReservedOk (s : State) : Prop :=
  s.regs.txCfg &&& 0xFF00F0C0#32 = 0#32 ∧ s.regs.txPulse &&& 0xFFFF0000#32 = 0#32 ∧
    s.regs.rxTol &&& 0xFFFFFF00#32 = 0#32 ∧ s.result.codeHi &&& 0xFFFFFFFE#32 = 0#32 ∧
    s.result.metaWord &&& 0xFFFFF0C0#32 = 0#32

/-- While BUSY, the segment on the pin and those left are the end of the train of the latched operands, which were legal
(42_transmitter.md R125, R128, R129). -/
def State.TrainOk (s : State) : Prop :=
  s.status.busy = true →
    1 ≤ s.tx.width.toNat ∧ s.tx.width.toNat ≤ 32 ∧ s.tx.pulse ≠ 0#16 ∧ s.tx.code.toNat < 2 ^ s.tx.width.toNat ∧
      ∃ p sent g, lookup Config.protocols s.tx.proto.toNat = some p ∧ s.tx.cur = some g ∧
        pulseTrain p s.tx.code.toNat s.tx.width.toNat s.tx.pulse.toNat s.tx.reps.toNat = sent ++ g :: s.tx.rest

/-- Before the first result the result registers hold 0; a published result has a code that is not 0, a bit length of 3
to 33 and an identifier of the table (10_state.md R36, R38). -/
def State.ResultOk (s : State) : Prop :=
  (s.status.rxValid = false → s.result = State.reset.result) ∧
    (s.status.rxValid = true →
      (s.result.codeLo ≠ 0#32 ∨ s.result.codeHi ≠ 0#32) ∧
        3 ≤ (s.result.metaWord.extractLsb' 0 6).toNat ∧ (s.result.metaWord.extractLsb' 0 6).toNat ≤ 33 ∧
        lookup Config.protocols (s.result.metaWord.extractLsb' 8 4).toNat ≠ none)

/-- The invariants that hold between operations. -/
def State.Inv (s : State) : Prop :=
  s.decoder.CountsOk ∧ s.ActivityOk ∧ s.PinsOk ∧ s.ReservedOk ∧ s.TrainOk ∧ s.ResultOk

/-- A run is quiescent when no train runs and no edge event waits (70_reset_and_hazards.md R227). -/
def State.Quiescent (s : State) : Prop := s.status.busy = false ∧ s.efifo = []

/-- The decoder fed with events a list of durations apart: its state after them, and the results in order of their
events (44_decoder.md R153; `edges` of 30_encoding.md R88). -/
def feed (tbl : ProtocolTable) (pct : Nat) : List Word → Decoder → Decoder × List DecodedResult
  | [], d => (d, [])
  | dur :: rest, d =>
    let out := decoderStep tbl pct (d.lastTs + dur) d
    let more := feed tbl pct rest out.1
    (more.1, out.2.toList ++ more.2)

/-- An operation of the environment with reset released. -/
def eventAt (now : Word) (op : Op) : Event := { rstN := true, nowUs := now, op := op }

/-- Segment steps that come exactly when each segment of a train is over, the first of which began at `start`
(95_test_vectors.md P1, "with exact timing"). -/
def dueSteps : Word → List Segment → List Event
  | _, [] => []
  | start, g :: rest =>
    eventAt (start + BitVec.ofNat 32 g.duration) .segStep :: dueSteps (start + BitVec.ofNat 32 g.duration) rest

/-- A segment as the trace records it (10_state.md R49). -/
def Segment.traced (g : Segment) : TraceItem := .seg g.level g.duration

end Sys2Proof.Machine
end

