-- ==== Sys2Proof/Certificates/Slice0/Obligations.lean ====
section
/-! DEFINITION. What is to be proved of the model: statements from the spec's numbered rules. A full record equation
`exec i s = .next { s with … }` says the effect, the frame (every other field is as before) and that the instruction
completes. The block has no byte memory (20_memory.md R60): the one array is the decoder's `T`. -/

open Sys2Proof Sys2Proof.Machine

/-! ### Encoding (30_encoding.md) -/

/-- Decoding what the encoder presents gives the instruction back, for every instruction and every operand
(30_encoding.md R76, R77, R83, R84). -/
def Obligations.DecodingAnEncodedInstructionGivesItBack : Prop :=
  ∀ (now : Word) (i : Instr), decode (encode now i).1 (encode now i).2 = .ok i

/-- A well-formed carrier is the only one that presents its instruction in its format (30_encoding.md R76, R84). For BUS
reads this rests on the model's choice of log 16: a read that drives write data is called ill-formed, though it decodes. -/
def Obligations.EncodingADecodedCarrierGivesItBack : Prop :=
  ∀ (now : Word) (c : Carrier) (i : Instr), c.wf = true → decode now c = .ok i → encode now i = (now, c)

/-- R78, R79, R193: the decoder accepts exactly the ten words; a word with a reserved bit set or a reserved opcode is
illegal, and an illegal word writes ERR = ILLEGAL_COMMAND and has no other effect, in either format of a write to CMD.
-/
def Obligations.ExactlyTenWordsAreCommands : Prop :=
  ∀ now w : Word,
    ((∃ i, decode now (.cmd w) = .ok i) ↔
      w ∈ [0x0#32, 0x1#32, 0x2#32, 0x3#32, 0x4#32, 0x5#32, 0x6#32, 0x8#32, 0x9#32, 0xA#32]) ∧
    (w.extractLsb' 8 24 ≠ 0#24 ∨ w.extractLsb' 0 8 = 0x07#8 ∨ 0x0B#8 ≤ w.extractLsb' 0 8 →
      decode now (.cmd w) = .error (.illegalCommand w)) ∧
    (decode now (.cmd w) = .error (.illegalCommand w) → ∀ s : State,
      exec (.regWrite .cmd w) s = .next { s with status := { s.status with err := .illegalCommand } } ∧
      present (.cmd w) s = .next { s with status := { s.status with err := .illegalCommand } })

/-- R77: the opcode map, word by word. -/
def Obligations.CommandWordsDecodeAsTheOpcodeMapSays : Prop :=
  ∀ now : Word,
    decode now (.cmd 0x00000000#32) = .ok .nop ∧ decode now (.cmd 0x00000001#32) = .ok .txEnable ∧
    decode now (.cmd 0x00000002#32) = .ok .txDisable ∧ decode now (.cmd 0x00000003#32) = .ok .rxEnable ∧
    decode now (.cmd 0x00000004#32) = .ok .rxDisable ∧ decode now (.cmd 0x00000005#32) = .ok .send ∧
    decode now (.cmd 0x00000006#32) = .ok .cleanup ∧ decode now (.cmd 0x00000008#32) = .ok .encLogic0 ∧
    decode now (.cmd 0x00000009#32) = .ok .encLogic1 ∧ decode now (.cmd 0x0000000A#32) = .ok .encSync

/-- R84, R83 with the register map of 10_state.md R25: all sixteen values of ADDR decode, to the register that the map has
at byte offset `ADDR * 4`, with DIR = 0 a read and DIR = 1 a write of the data; a strobe is EDGE with the value of the time
input. -/
def Obligations.EveryBusAccessAndStrobeDecodes : Prop :=
  ∀ (now : Word) (a : BitVec 4) (v : Word),
    (∃ slot : Slot, slot.offset = a.toNat * 4 ∧
      decode now (.bus (0#1 ++ a) v) = .ok (.regRead slot) ∧
      decode now (.bus (1#1 ++ a) v) = .ok (.regWrite slot v)) ∧
    (∀ e ∈ [(0x0#4, 0x00, Slot.cmd), (0x1#4, 0x04, .status), (0x2#4, 0x08, .txCode), (0x3#4, 0x0C, .txCfg),
        (0x4#4, 0x10, .txPulse), (0x5#4, 0x14, .rxTol), (0x6#4, 0x18, .rxCodeLo), (0x7#4, 0x1C, .rxCodeHi),
        (0x8#4, 0x20, .rxMeta), (0x9#4, 0x24, .rxUnit), (0xA#4, 0x28, .rxTime), (0xB#4, 0x2C, .rxSeq),
        (0xC#4, 0x30, .waveHigh), (0xD#4, 0x34, .waveLow), (0xE#4, 0x38, .unmapped38), (0xF#4, 0x3C, .unmapped3C)],
      e.2.2.offset = e.2.1 ∧ decode now (.bus (0#1 ++ e.1) v) = .ok (.regRead e.2.2) ∧
      decode now (.bus (1#1 ++ e.1) v) = .ok (.regWrite e.2.2 v)) ∧
    decode now .edge = .ok (.edge now)

/-- A write to CMD runs the command its data encodes, and the CMD format is a BUS write to offset 0x00 (30_encoding.md
R75, R76, 40_host_interface.md R91; log 8). -/
def Obligations.AWriteToCmdRunsItsCommand : Prop :=
  (∀ (now w : Word) (i : Instr) (s : State), decode now (.cmd w) = .ok i → exec (.regWrite .cmd w) s = exec i s) ∧
  ∀ (w : Word) (s : State), present (.bus (1#1 ++ 0#4) w) s = present (.cmd w) s

/-! ### Steps and reset -/

/-- When the next operation's carrier decodes to an instruction, the step is that instruction's meaning at the state
that sees the operation's time, with the operation taken off the list (20_memory.md R66; log 1, log 3). -/
def Obligations.AStepRunsTheDecodedInstruction : Prop :=
  ∀ (s : State) (e : Event) (rest : List Event) (c : Carrier) (i : Instr),
    s.pending = e :: rest → e.rstN = true → e.op = .port c → decode e.nowUs c = .ok i →
    step s = exec i { s with nowUs := e.nowUs, pending := rest }

/-- What a step does for the operations that decode to nothing: the two internal operations, an illegal word, and no
operation at all (44_decoder.md R154, 42_transmitter.md R133, 30_encoding.md R76, 70_reset_and_hazards.md R211; the
waiting at the end of the list is the model's, log 10). -/
def Obligations.AStepTakesTheOtherOperations : Prop :=
  ∀ (s : State) (now : Word) (rest : List Event),
    (s.pending = eventAt now .process :: rest → step s = .next (processEdge { s with nowUs := now, pending := rest })) ∧
    (s.pending = eventAt now .segStep :: rest → step s = .next (segmentStep { s with nowUs := now, pending := rest })) ∧
    (∀ w, s.pending = eventAt now (.port (.cmd w)) :: rest → decode now (.cmd w) = .error (.illegalCommand w) →
      step s = .next { s with nowUs := now, pending := rest, status := { s.status with err := .illegalCommand } }) ∧
    (s.pending = [] → step s = .next s)

/-- R213, R212: while `rst_n = 0` the strobe is ignored whatever it is, and the state is the reset state, where
`reg_rdata` is 0; a train, the queued edges and the result are gone without an ABORT. The list of operations and the
time input, which stay, are the model's (log 1, log 3, log 9). -/
def Obligations.ResetIgnoresStrobesAndClears : Prop :=
  ∀ (s : State) (e : Event) (rest : List Event), s.pending = e :: rest → e.rstN = false →
    step s = .next { State.reset with nowUs := e.nowUs, pending := rest } ∧
    State.reset.rdata = 0#32 ∧ State.reset.trace = [] ∧ State.reset.status.txAbort = false ∧
    State.reset.status.busy = false ∧ State.reset.efifo = [] ∧ State.reset.status.rxValid = false

/-- R210: the reset value of every piece of state. -/
def Obligations.EveryPieceOfStateHasItsResetValue : Prop :=
  State.reset.status = { mode := .off, busy := false, txAbort := false, err := .ok, rxOvf := false, rxValid := false } ∧
  slotValue State.reset .status = 0x00000000#32 ∧ slotValue State.reset .txCode = 0#32 ∧
  slotValue State.reset .txCfg = 0x000A0118#32 ∧ State.reset.regs.bitWidth = 24#6 ∧
  State.reset.regs.protocol = 1#4 ∧ State.reset.regs.reps = 10#8 ∧
  slotValue State.reset .txPulse = 0x0000015E#32 ∧ State.reset.regs.pulseUs = 350#16 ∧
  slotValue State.reset .rxTol = 0x00000014#32 ∧ State.reset.regs.tolPct = 20#8 ∧
  (∀ slot ∈ [Slot.rxCodeLo, .rxCodeHi, .rxMeta, .rxUnit, .rxTime, .rxSeq, .waveHigh, .waveLow],
    slotValue State.reset slot = 0#32) ∧
  (∀ i, State.reset.decoder.entry i = 0#32) ∧ State.reset.decoder.changeCount = 0 ∧
  State.reset.decoder.repeatCount = 0 ∧ State.reset.decoder.lastTs = 0#32 ∧ State.reset.efifo = [] ∧
  State.reset.tx = { code := 0#32, width := 0#6, proto := 0#4, pulse := 0#16, reps := 0#8, cur := none, rest := [],
                     segStart := 0#32 } ∧
  State.reset.pins = { dir := .input, out := .low, edgeEn := false } ∧ State.reset.trace = []

/-! ### Host accesses (40_host_interface.md R90 to R92) -/

/-- R27: where the fields of STATUS stand in the word a host reads. R82: the fields of TX_CFG, TX_PULSE and RX_TOL put
together are the register, when its reserved bits read 0. -/
def Obligations.RegisterWordsAreTheirFields : Prop :=
  (∀ f : Status,
    f.word.extractLsb' 0 2 = (match f.mode with | .off => 0#2 | .tx => 1#2 | .rx => 2#2) ∧
    f.word.getLsbD 2 = f.busy ∧ f.word.getLsbD 3 = f.txAbort ∧
    f.word.extractLsb' 4 4 = (match f.err with
      | .ok => 0#4 | .modeConflict => 1#4 | .notEnabled => 2#4 | .unsupportedProtocol => 3#4 | .codeTooWide => 4#4
      | .invalidArgument => 5#4 | .busy => 6#4 | .illegalCommand => 7#4) ∧
    f.word.getLsbD 8 = f.rxOvf ∧ f.word.getLsbD 9 = f.rxValid ∧ f.word.extractLsb' 10 22 = 0#22) ∧
  ∀ r : HostRegs,
    (r.txCfg &&& 0xFF00F0C0#32 = 0#32 → r.txCfg = 0#8 ++ r.reps ++ 0#4 ++ r.protocol ++ 0#2 ++ r.bitWidth) ∧
    (r.txPulse &&& 0xFFFF0000#32 = 0#32 → r.txPulse = 0#16 ++ r.pulseUs) ∧
    (r.rxTol &&& 0xFFFFFF00#32 = 0#32 → r.rxTol = 0#24 ++ r.tolPct)

/-- R90: a BUS read is the REG_READ of its slot, and REG_READ drives the slot's value on `reg_rdata` and changes
nothing else; CMD and the unmapped slots read 0. -/
def Obligations.RegReadReturnsTheSlotAndNothingElse : Prop :=
  ∀ s : State,
    (∀ (slot : Slot) (data : Word), decode s.nowUs (.bus (0#1 ++ slot.addr) data) = .ok (.regRead slot)) ∧
    exec (.regRead .cmd) s = .next { s with rdata := 0#32 } ∧
    exec (.regRead .status) s = .next { s with rdata := s.status.word } ∧
    exec (.regRead .txCode) s = .next { s with rdata := s.regs.txCode } ∧
    exec (.regRead .txCfg) s = .next { s with rdata := s.regs.txCfg } ∧
    exec (.regRead .txPulse) s = .next { s with rdata := s.regs.txPulse } ∧
    exec (.regRead .rxTol) s = .next { s with rdata := s.regs.rxTol } ∧
    exec (.regRead .rxCodeLo) s = .next { s with rdata := s.result.codeLo } ∧
    exec (.regRead .rxCodeHi) s = .next { s with rdata := s.result.codeHi } ∧
    exec (.regRead .rxMeta) s = .next { s with rdata := s.result.metaWord } ∧
    exec (.regRead .rxUnit) s = .next { s with rdata := s.result.unitDelay } ∧
    exec (.regRead .rxTime) s = .next { s with rdata := s.result.timestamp } ∧
    exec (.regRead .rxSeq) s = .next { s with rdata := s.result.seqCount } ∧
    exec (.regRead .waveHigh) s = .next { s with rdata := s.wave.high } ∧
    exec (.regRead .waveLow) s = .next { s with rdata := s.wave.low } ∧
    exec (.regRead .unmapped38) s = .next { s with rdata := 0#32 } ∧
    exec (.regRead .unmapped3C) s = .next { s with rdata := 0#32 }

/-- R91 for the four RW registers: the defined bits are kept, the reserved bits are 0, and nothing else changes, the
latched train and ERR among it. -/
def Obligations.RegWriteStoresTheDefinedBits : Prop :=
  ∀ (v : Word) (s : State),
    exec (.regWrite .txCode v) s = .next { s with regs := { s.regs with txCode := v } } ∧
    exec (.regWrite .txCfg v) s = .next { s with regs := { s.regs with txCfg := v &&& 0x00FF0F3F#32 } } ∧
    exec (.regWrite .txPulse v) s = .next { s with regs := { s.regs with txPulse := v &&& 0x0000FFFF#32 } } ∧
    exec (.regWrite .rxTol v) s = .next { s with regs := { s.regs with rxTol := v &&& 0x000000FF#32 } }

/-- R92: a write to a read-only or unmapped slot changes no state and raises no error. -/
def Obligations.AWriteToAReadOnlySlotChangesNothing : Prop :=
  ∀ (v : Word) (s : State),
    ∀ slot ∈ [Slot.status, .rxCodeLo, .rxCodeHi, .rxMeta, .rxUnit, .rxTime, .rxSeq, .waveHigh, .waveLow, .unmapped38,
      .unmapped3C], exec (.regWrite slot v) s = .next s

/-! ### NOP and the mode commands (40_host_interface.md R94 to R99) -/

/-- R94. -/
def Obligations.NopOnlyReportsOk : Prop :=
  ∀ s : State, decode s.nowUs (.cmd 0x00000000#32) = .ok .nop ∧
    exec .nop s = .next { s with status := { s.status with err := .ok } }

/-- R95. -/
def Obligations.TxEnableEntersTxFromOff : Prop :=
  ∀ s : State, decode s.nowUs (.cmd 0x00000001#32) = .ok .txEnable ∧
    (s.status.mode = .rx → exec .txEnable s = .next { s with status := { s.status with err := .modeConflict } }) ∧
    (s.status.mode = .off → exec .txEnable s = .next
      { s with
        pins := { s.pins with out := .low, dir := .output }
        status := { s.status with mode := .tx, err := .ok } }) ∧
    (s.status.mode = .tx → exec .txEnable s = .next { s with status := { s.status with err := .ok } })

/-- R96, with the abort of 42_transmitter.md R135. -/
def Obligations.TxDisableLeavesTxAndAborts : Prop :=
  ∀ s : State, decode s.nowUs (.cmd 0x00000002#32) = .ok .txDisable ∧
    (s.status.mode = .tx → s.status.busy = true → exec .txDisable s = .next
      { s with
        trace := s.trace ++ [.abort]
        tx := { s.tx with cur := none, rest := [] }
        pins := { s.pins with out := .low, dir := .input }
        status := { s.status with mode := .off, busy := false, txAbort := true, err := .ok } }) ∧
    (s.status.mode = .tx → s.status.busy = false → exec .txDisable s = .next
      { s with
        pins := { s.pins with out := .low, dir := .input }
        status := { s.status with mode := .off, err := .ok } }) ∧
    (s.status.mode ≠ .tx → exec .txDisable s = .next { s with status := { s.status with err := .ok } })

/-- R97. -/
def Obligations.RxEnableEntersRxFromOffAndClearsOverflow : Prop :=
  ∀ s : State, decode s.nowUs (.cmd 0x00000003#32) = .ok .rxEnable ∧
    (s.status.mode = .tx → exec .rxEnable s = .next { s with status := { s.status with err := .modeConflict } }) ∧
    (s.status.mode = .off → exec .rxEnable s = .next
      { s with
        pins := { s.pins with dir := .input, edgeEn := true }
        status := { s.status with mode := .rx, rxOvf := false, err := .ok } }) ∧
    (s.status.mode = .rx → exec .rxEnable s = .next { s with status := { s.status with rxOvf := false, err := .ok } })

/-- R98: the decoder's state and the result stay, waiting events are dropped without setting RX_OVF. -/
def Obligations.RxDisableLeavesRxAndDropsWaitingEdges : Prop :=
  ∀ s : State, decode s.nowUs (.cmd 0x00000004#32) = .ok .rxDisable ∧
    (s.status.mode = .rx → exec .rxDisable s = .next
      { s with
        pins := { s.pins with edgeEn := false }
        efifo := []
        status := { s.status with mode := .off, err := .ok } }) ∧
    (s.status.mode ≠ .rx → exec .rxDisable s = .next { s with status := { s.status with err := .ok } })

/-- R99, with the abort of 42_transmitter.md R135. -/
def Obligations.CleanupLeavesAnyModeAndReleases : Prop :=
  ∀ s : State, decode s.nowUs (.cmd 0x00000006#32) = .ok .cleanup ∧
    (s.status.mode = .tx → s.status.busy = true → exec .cleanup s = .next
      { s with
        trace := s.trace ++ [.abort, .release]
        tx := { s.tx with cur := none, rest := [] }
        pins := { dir := .input, out := .low, edgeEn := false }
        efifo := []
        status := { s.status with mode := .off, busy := false, txAbort := true, err := .ok } }) ∧
    (¬(s.status.mode = .tx ∧ s.status.busy = true) → exec .cleanup s = .next
      { s with
        trace := s.trace ++ [.release]
        pins := { dir := .input, out := .low, edgeEn := false }
        efifo := []
        status := { s.status with mode := .off, err := .ok } })

/-- Clean-up never fails and may be repeated: a second TX_DISABLE or RX_DISABLE changes nothing, a second CLEANUP only
strobes the release again (70_reset_and_hazards.md R215, 40_host_interface.md R99). -/
def Obligations.CleanUpIsIdempotent : Prop :=
  ∀ s : State,
    (∃ t, exec .txDisable s = .next t ∧ t.status.err = .ok ∧ exec .txDisable t = .next t) ∧
    (∃ t, exec .rxDisable s = .next t ∧ t.status.err = .ok ∧ exec .rxDisable t = .next t) ∧
    (∃ t, exec .cleanup s = .next t ∧ t.status.err = .ok ∧
      exec .cleanup t = .next { t with trace := t.trace ++ [.release] })

/-- R100: enabling one mode while the other is active is MODE_CONFLICT; no instruction moves the mode from TX to RX or
from RX to TX, and only the five mode commands change it. -/
def Obligations.ModesAreExclusive : Prop :=
  (∀ s : State,
    (s.status.mode = .rx → exec .txEnable s = .next { s with status := { s.status with err := .modeConflict } }) ∧
    (s.status.mode = .tx → exec .rxEnable s = .next { s with status := { s.status with err := .modeConflict } })) ∧
  (∀ (i : Instr) (s t : State), exec i s = .next t →
    ¬(s.status.mode = .tx ∧ t.status.mode = .rx) ∧ ¬(s.status.mode = .rx ∧ t.status.mode = .tx)) ∧
  (∀ (i : Instr) (s t : State), exec i s = .next t → t.status.mode ≠ s.status.mode →
    i ∈ [Instr.txEnable, .txDisable, .rxEnable, .rxDisable, .cleanup] ∨
      ∃ w ∈ [0x1#32, 0x2#32, 0x3#32, 0x4#32, 0x6#32], i = .regWrite .cmd w) ∧
  ∀ s : State, (processEdge s).status.mode = s.status.mode ∧ (segmentStep s).status.mode = s.status.mode

/-! ### Errors (60_exceptions.md) -/

/-- R189: after a failed command every piece of state except ERR is as before, for every word written to CMD. -/
def Obligations.ErrorsArePrecise : Prop :=
  ∀ (w : Word) (s t : State), exec (.regWrite .cmd w) s = .next t → t.status.err ≠ .ok →
    t = { s with status := { s.status with err := t.status.err } }

/-- R209: plain register accesses, edge events and segment steps do not change ERR. -/
def Obligations.ErrPersistsUntilTheNextCommand : Prop :=
  (∀ (slot : Slot) (s t : State), exec (.regRead slot) s = .next t → t.status.err = s.status.err) ∧
  (∀ (slot : Slot) (v : Word) (s t : State), slot ≠ .cmd → exec (.regWrite slot v) s = .next t →
    t.status.err = s.status.err) ∧
  (∀ (ts : Word) (s t : State), exec (.edge ts) s = .next t → t.status.err = s.status.err) ∧
  ∀ s : State, (processEdge s).status.err = s.status.err ∧ (segmentStep s).status.err = s.status.err

/-- The block has no traps (60_exceptions.md R200): from every state every instruction and every step (log 1) go on. -/
def Obligations.NothingStopsTheBlock : Prop :=
  (∀ (i : Instr) (s : State), ∃ t, exec i s = .next t) ∧ ∀ s : State, ∃ t, step s = .next t

/-- The sticky flags: RX_VALID is cleared by no instruction, RX_OVF only by RX_ENABLE outside TX, TX_ABORT only by an
accepted SEND; edge processing and segment steps clear none (10_state.md R53). -/
def Obligations.StickyFlagsStayUntilTheirOwnCommand : Prop :=
  (∀ (i : Instr) (s t : State), exec i s = .next t →
    t.status.rxValid = s.status.rxValid ∧
    (s.status.rxOvf = true → t.status.rxOvf = false →
      (i = .rxEnable ∨ i = .regWrite .cmd 0x3#32) ∧ s.status.mode ≠ .tx) ∧
    (s.status.txAbort = true → t.status.txAbort = false →
      (i = .send ∨ i = .regWrite .cmd 0x5#32) ∧ t.status.err = .ok)) ∧
  ∀ s : State,
    (s.status.rxValid = true → (processEdge s).status.rxValid = true) ∧
    (processEdge s).status.rxOvf = s.status.rxOvf ∧ (processEdge s).status.txAbort = s.status.txAbort ∧
    (segmentStep s).status.rxValid = s.status.rxValid ∧ (segmentStep s).status.rxOvf = s.status.rxOvf ∧
    (segmentStep s).status.txAbort = s.status.txAbort

/-! ### The protocol table and the encoder (41_encoder.md) -/

/-- R110: in every legal table, lookup finds exactly the table's entries; the default table of 00_scope.md R8 is legal
and has exactly its two entries. -/
def Obligations.LookupFindsExactlyTheEntries : Prop :=
  (∀ (tbl : ProtocolTable) (id : Nat) (p : Protocol), ProtocolTable.wf tbl = true →
    (lookup tbl id = some p ↔ (id, p) ∈ tbl)) ∧
  ProtocolTable.wf Config.protocols = true ∧ lookup Config.protocols 1 = some ⟨31, 3⟩ ∧
  lookup Config.protocols 2 = some ⟨10, 2⟩ ∧ ∀ id, id ≠ 1 → id ≠ 2 → lookup Config.protocols id = none

/-- R113: under every legal table and pulse length a waveform's durations are at most 255 * 65535 = 16711425 and fit 32
bits, so the wave registers hold them exactly. -/
def Obligations.WaveformDurationsFit : Prop :=
  ∀ (tbl : ProtocolTable) (id : Nat) (p : Protocol) (unit : Nat) (sym : Symbol), ProtocolTable.wf tbl = true →
    lookup tbl id = some p → 1 ≤ unit → unit ≤ 65535 →
    (wave p unit sym).1 ≤ 16711425 ∧ (wave p unit sym).2 ≤ 16711425 ∧
      (BitVec.ofNat 32 (wave p unit sym).1).toNat = (wave p unit sym).1 ∧
      (BitVec.ofNat 32 (wave p unit sym).2).toNat = (wave p unit sym).2

/-- R114, R115, R116: each ENC command checks the pulse, then the protocol, and writes its waveform of R112 exactly to
WAVE_HIGH and WAVE_LOW; on an error only ERR changes. -/
def Obligations.EncodeCommandsWriteTheirWaveforms : Prop :=
  ∀ (s : State) (i : Instr), i ∈ [Instr.encLogic0, .encLogic1, .encSync] →
    (s.regs.pulseUs = 0#16 → exec i s = .next { s with status := { s.status with err := .invalidArgument } }) ∧
    (s.regs.pulseUs ≠ 0#16 → lookup Config.protocols s.regs.protocol.toNat = none →
      exec i s = .next { s with status := { s.status with err := .unsupportedProtocol } }) ∧
    ∀ p : Protocol, s.regs.pulseUs ≠ 0#16 → lookup Config.protocols s.regs.protocol.toNat = some p →
      ∃ h l : Word,
        exec i s = .next { s with wave := { high := h, low := l }, status := { s.status with err := .ok } } ∧
        (i = .encLogic0 → decode s.nowUs (.cmd 0x00000008#32) = .ok i ∧
          h.toNat = s.regs.pulseUs.toNat ∧ l.toNat = p.pulseUnits * s.regs.pulseUs.toNat) ∧
        (i = .encLogic1 → decode s.nowUs (.cmd 0x00000009#32) = .ok i ∧
          h.toNat = p.pulseUnits * s.regs.pulseUs.toNat ∧ l.toNat = s.regs.pulseUs.toNat) ∧
        (i = .encSync → decode s.nowUs (.cmd 0x0000000A#32) = .ok i ∧
          h.toNat = s.regs.pulseUs.toNat ∧ l.toNat = p.syncUnits * s.regs.pulseUs.toNat)

/-! ### The transmitter (42_transmitter.md) -/

/-- R125's checks in the order of 60_exceptions.md R195, with the causes of R187, R188, R190, R191 and R192 for SEND: each
failing check, with all before it passed, raises its own error and changes nothing else. -/
def Obligations.SendReportsItsFirstFailingCheck : Prop :=
  ∀ s : State,
    (s.status.busy = true → exec .send s = .next { s with status := { s.status with err := .busy } }) ∧
    (s.status.busy = false → s.status.mode ≠ .tx →
      exec .send s = .next { s with status := { s.status with err := .notEnabled } }) ∧
    (s.status.busy = false → s.status.mode = .tx →
      (s.regs.bitWidth.toNat = 0 ∨ 33 ≤ s.regs.bitWidth.toNat ∨ s.regs.pulseUs = 0#16) →
      exec .send s = .next { s with status := { s.status with err := .invalidArgument } }) ∧
    (s.status.busy = false → s.status.mode = .tx → 1 ≤ s.regs.bitWidth.toNat → s.regs.bitWidth.toNat ≤ 32 →
      s.regs.pulseUs ≠ 0#16 → lookup Config.protocols s.regs.protocol.toNat = none →
      exec .send s = .next { s with status := { s.status with err := .unsupportedProtocol } }) ∧
    ∀ p : Protocol, s.status.busy = false → s.status.mode = .tx → 1 ≤ s.regs.bitWidth.toNat →
      s.regs.bitWidth.toNat ≤ 32 → s.regs.pulseUs ≠ 0#16 → lookup Config.protocols s.regs.protocol.toNat = some p →
      2 ^ s.regs.bitWidth.toNat ≤ s.regs.txCode.toNat →
      exec .send s = .next { s with status := { s.status with err := .codeTooWide } }

/-- R125 accepted: with legal operands and at least one repetition, SEND latches its operands (R129), clears TX_ABORT
(R132), sets BUSY (R131) and begins the first segment of the train now (R126). -/
def Obligations.AcceptedSendStartsItsTrain : Prop :=
  ∀ (s : State) (p : Protocol), s.status.busy = false → s.status.mode = .tx → 1 ≤ s.regs.bitWidth.toNat →
    s.regs.bitWidth.toNat ≤ 32 → s.regs.pulseUs ≠ 0#16 → lookup Config.protocols s.regs.protocol.toNat = some p →
    s.regs.txCode.toNat < 2 ^ s.regs.bitWidth.toNat → s.regs.reps ≠ 0#8 →
    ∃ g rest,
      pulseTrain p s.regs.txCode.toNat s.regs.bitWidth.toNat s.regs.pulseUs.toNat s.regs.reps.toNat = g :: rest ∧
      exec .send s = .next
        { s with
          tx := { code := s.regs.txCode, width := s.regs.bitWidth, proto := s.regs.protocol, pulse := s.regs.pulseUs,
                  reps := s.regs.reps, cur := some g, rest := rest, segStart := s.nowUs }
          status := { s.status with busy := true, txAbort := false, err := .ok }
          pins := { s.pins with out := g.level }
          trace := s.trace ++ [.seg g.level g.duration] }

/-- R130: with zero repetitions the train is empty; SEND is accepted, clears TX_ABORT, emits nothing and leaves BUSY
at 0 and the pin as it is. -/
def Obligations.SendOfZeroRepetitionsSendsNothing : Prop :=
  ∀ (s : State) (p : Protocol), s.status.busy = false → s.status.mode = .tx → 1 ≤ s.regs.bitWidth.toNat →
    s.regs.bitWidth.toNat ≤ 32 → s.regs.pulseUs ≠ 0#16 → lookup Config.protocols s.regs.protocol.toNat = some p →
    s.regs.txCode.toNat < 2 ^ s.regs.bitWidth.toNat → s.regs.reps = 0#8 →
    pulseTrain p s.regs.txCode.toNat s.regs.bitWidth.toNat s.regs.pulseUs.toNat s.regs.reps.toNat = [] ∧
    exec .send s = .next
      { s with
        tx := { code := s.regs.txCode, width := s.regs.bitWidth, proto := s.regs.protocol, pulse := s.regs.pulseUs,
                reps := s.regs.reps, cur := none, rest := [], segStart := s.tx.segStart }
        status := { s.status with busy := false, txAbort := false, err := .ok } }

/-- R127: the binary code has W bits, bit W-1 first; read as a binary number it is the code. -/
def Obligations.BinaryCodeIsMostSignificantBitFirst : Prop :=
  ∀ c w : Nat, (codeBits c w).length = w ∧ (∀ i < w, (codeBits c w)[i]? = some (c.testBit (w - 1 - i))) ∧
    (c < 2 ^ w → (codeBits c w).foldl (fun v b => 2 * v + b.toNat) 0 = c)

/-- R128: a train is R times one repetition of 2W + 2 segments; bit number i of the code, counted from the first sent,
is coded by segments 2i and 2i + 1 of its repetition, and the repetition ends with the sync. -/
def Obligations.PulseTrainIsItsRepetitions : Prop :=
  ∀ (p : Protocol) (c w unit reps r : Nat), r < reps →
    (pulseTrain p c w unit reps).length = reps * (2 * w + 2) ∧
    (∀ i < w,
      (pulseTrain p c w unit reps)[r * (2 * w + 2) + 2 * i]? =
        some ⟨.high, if c.testBit (w - 1 - i) then p.pulseUnits * unit else unit⟩ ∧
      (pulseTrain p c w unit reps)[r * (2 * w + 2) + 2 * i + 1]? =
        some ⟨.low, if c.testBit (w - 1 - i) then unit else p.pulseUnits * unit⟩) ∧
    (pulseTrain p c w unit reps)[r * (2 * w + 2) + 2 * w]? = some ⟨.high, unit⟩ ∧
    (pulseTrain p c w unit reps)[r * (2 * w + 2) + 2 * w + 1]? = some ⟨.low, p.syncUnits * unit⟩

/-- R139's size and nominal length, for every code. -/
def Obligations.PulseTrainSizeAndLength : Prop :=
  ∀ (p : Protocol) (c w unit reps : Nat),
    (pulseTrain p c w unit reps).length = reps * (2 * w + 2) ∧
    ((pulseTrain p c w unit reps).map Segment.duration).sum =
      reps * unit * (w * (1 + p.pulseUnits) + 1 + p.syncUnits)

/-- R133 and R134: while BUSY, a segment step does nothing until the segment on the pin has lasted its duration; then
the next segment begins now, or after the last one the train ends with the pin LOW and the mode kept. That a step that
is not enabled does nothing, and that the guard of R133 holds in the model too, are the model's (log 7, log 10). -/
def Obligations.SegmentStepDrivesTheTrain : Prop :=
  ∀ (s : State) (g : Segment), s.status.busy = true → s.tx.cur = some g →
    ((s.nowUs - s.tx.segStart).toNat < g.duration → segmentStep s = s) ∧
    (∀ next rest, g.duration ≤ (s.nowUs - s.tx.segStart).toNat → s.tx.rest = next :: rest →
      segmentStep s =
        { s with
          tx := { s.tx with cur := some next, rest := rest, segStart := s.nowUs }
          pins := { s.pins with out := next.level }
          trace := s.trace ++ [.seg next.level next.duration] }) ∧
    (g.duration ≤ (s.nowUs - s.tx.segStart).toNat → s.tx.rest = [] →
      segmentStep s =
        { s with
          tx := { s.tx with cur := none }
          status := { s.status with busy := false }
          pins := { s.pins with out := .low } })

/-- An accepted SEND, followed by segment steps (log 1, log 7) that come when each segment is over, sends the whole
train in order and nothing else, and ends with BUSY = 0, TX_ABORT = 0, ERR = OK and the pin LOW (42_transmitter.md
R125, R128, R132 to R134). -/
def Obligations.ATrainLeftAloneIsSentWhole : Prop :=
  ∀ (s : State) (p : Protocol) (now : Word), s.status.busy = false → s.status.mode = .tx →
    1 ≤ s.regs.bitWidth.toNat → s.regs.bitWidth.toNat ≤ 32 → s.regs.pulseUs ≠ 0#16 →
    lookup Config.protocols s.regs.protocol.toNat = some p → s.regs.txCode.toNat < 2 ^ s.regs.bitWidth.toNat →
    s.regs.reps ≠ 0#8 →
    s.pending = eventAt now (.port (.cmd 0x5#32)) :: dueSteps now (trainOf p s.regs) →
    ∃ t : State, Sys2Proof.core.run ((trainOf p s.regs).length + 1) s = .next t ∧
      t.trace = s.trace ++ (trainOf p s.regs).map Segment.traced ∧
      t.status = { s.status with busy := false, txAbort := false, err := .ok } ∧
      t.pins = { s.pins with out := .low } ∧ t.tx.cur = none ∧ t.tx.rest = [] ∧
      t.regs = s.regs ∧ t.result = s.result ∧ t.wave = s.wave ∧ t.decoder = s.decoder ∧ t.efifo = s.efifo ∧
      t.rdata = s.rdata ∧ t.pending = []

/-- R136: with no train running nothing but SEND emits a segment, and a segment step does nothing. -/
def Obligations.OnlySendStartsATrain : Prop :=
  (∀ (i : Instr) (s t : State), s.status.busy = false → i ≠ .send → i ≠ .regWrite .cmd 0x5#32 → exec i s = .next t →
    (t.trace = s.trace ∨ t.trace = s.trace ++ [.release]) ∧ t.status.busy = false) ∧
  ∀ s : State, (s.status.busy = false → segmentStep s = s) ∧ (processEdge s).trace = s.trace ∧
    (processEdge s).tx = s.tx

/-- The trace is a record: no step (log 1) without a reset removes or changes an element of it (10_state.md R49,
42_transmitter.md R136). -/
def Obligations.TheTraceOnlyGrows : Prop :=
  ∀ (s t : State) (e : Event) (rest : List Event), s.pending = e :: rest → e.rstN = true → step s = .next t →
    s.trace <+: t.trace

/-! ### The comparator (43_comparator.md) -/

/-- R145 to R148: the basic comparator is inclusive on mathematical integers; the pulse comparator has its two equal
forms; the sync-repeat comparator is the basic one at 200; the classifier tests BIT0 first. -/
def Obligations.ComparatorsAreInclusiveAndBitZeroComesFirst : Prop :=
  ∀ obs exp tol k pu ud pct a b : Nat,
    (within obs exp tol = true ↔ |(obs : ℤ) - (exp : ℤ)| ≤ (tol : ℤ)) ∧
    (syncRepeats obs exp = true ↔ |(obs : ℤ) - (exp : ℤ)| ≤ 200) ∧
    (pulseMatch obs k ud pct = true ↔ 100 * |(obs : ℤ) - (k : ℤ) * ud| ≤ (ud : ℤ) * pct) ∧
    pulseMatch obs k ud pct = within obs (k * ud) (ud * pct / 100) ∧
    classify pu ud pct a b =
      if pulseMatch a 1 ud pct = true ∧ pulseMatch b pu ud pct = true then PairClass.bit0
      else if pulseMatch a pu ud pct = true ∧ pulseMatch b 1 ud pct = true then PairClass.bit1
      else PairClass.invalid

/-- R149: with `pct = 0` only the exact duration matches; with `ud = 0`, which a first entry under `sync_units` gives,
only the duration 0 does, and a pair is BIT0 exactly when it is (0, 0), else INVALID. -/
def Obligations.DegenerateComparatorInputs : Prop :=
  ∀ obs k ud pct pu a b : Nat,
    (pulseMatch obs k ud 0 = true ↔ obs = k * ud) ∧ (pulseMatch obs k 0 pct = true ↔ obs = 0) ∧
    (classify pu 0 pct a b = if a = 0 ∧ b = 0 then PairClass.bit0 else PairClass.invalid) ∧
    ∀ (d : Decoder) (p : Protocol), (d.entry 0).toNat < p.syncUnits → unitEstimate d p = 0

/-- R150: the short and the long window share an integer exactly when `2 * tol >= (pu - 1) * ud`; a pair inside both is
BIT0; at the default 20 percent no window of a protocol with `pu >= 2` overlaps, the default protocols among them. -/
def Obligations.OverlapOfTheTwoWindows : Prop :=
  ∀ pu ud pct : Nat, 1 ≤ pu →
    ((∃ x, pulseMatch x 1 ud pct = true ∧ pulseMatch x pu ud pct = true) ↔ (pu - 1) * ud ≤ 2 * (ud * pct / 100)) ∧
    (∀ x, pulseMatch x 1 ud pct = true → pulseMatch x pu ud pct = true → classify pu ud pct x x = .bit0) ∧
    (2 ≤ pu → 1 ≤ ud → ¬∃ x, pulseMatch x 1 ud 20 = true ∧ pulseMatch x pu ud 20 = true) ∧
    ∀ e ∈ Config.protocols, 2 ≤ e.2.pulseUnits

/-! ### The receive side (44_decoder.md) -/

/-- R154's capture: an edge outside RX is ignored, one that finds the FIFO full is lost and sets RX_OVF, any other is
queued last. -/
def Obligations.EdgeCaptureQueuesDropsOrIgnores : Prop :=
  ∀ (ts : Word) (s : State), decode ts .edge = .ok (.edge ts) ∧ 1 ≤ Config.edgeFifoDepth ∧
    (s.status.mode ≠ .rx → exec (.edge ts) s = .next s) ∧
    (s.status.mode = .rx → s.efifo.length = Config.edgeFifoDepth →
      exec (.edge ts) s = .next { s with status := { s.status with rxOvf := true } }) ∧
    (s.status.mode = .rx → s.efifo.length ≠ Config.edgeFifoDepth →
      exec (.edge ts) s = .next { s with efifo := s.efifo ++ [ts] })

/-- R154's process with R176 and R177: the oldest event leaves the FIFO and goes through the decoder step with the
tolerance that RX_TOL holds now; a result replaces all five fields, counts RX_SEQ up and sets RX_VALID; without one
nothing else changes. -/
def Obligations.ProcessingTakesTheOldestEdge : Prop :=
  ∀ (s : State) (ts : Word) (rest : List Word) (d : Decoder), s.efifo = ts :: rest →
    (decoderStep Config.protocols s.regs.tolPct.toNat ts s.decoder = (d, none) →
      processEdge s = { s with efifo := rest, decoder := d }) ∧
    ∀ r : DecodedResult, decoderStep Config.protocols s.regs.tolPct.toNat ts s.decoder = (d, some r) →
      processEdge s =
        { s with
          efifo := rest
          decoder := d
          result := { codeLo := BitVec.ofNat 32 r.code
                      codeHi := BitVec.ofNat 32 (r.code / 2 ^ 32 % 2)
                      metaWord := BitVec.ofNat 32 (r.bitLength % 64 + (r.protocol % 16) * 256)
                      unitDelay := BitVec.ofNat 32 r.unitDelay
                      timestamp := r.timestamp
                      seqCount := s.result.seqCount + 1#32 }
          status := { s.status with rxValid := true } }

/-- The decoder step by cases (R155 to R165): the duration wraps; a gap is strictly over 5000 and restarts the window,
whether it repeats or not; a repeat counts, and the second one decodes the window less its last entry; a full buffer
without a gap clears both counts; the duration is stored last. -/
def Obligations.DecoderStepByCases : Prop :=
  ∀ (tbl : ProtocolTable) (pct : Nat) (ts : Word) (d : Decoder),
    ((ts - d.lastTs).toNat ≤ 5000 → d.changeCount < 68 →
      decoderStep tbl pct ts d =
        ({ d with lastTs := ts, T := d.T.setIfInBounds d.changeCount (ts - d.lastTs), changeCount := d.changeCount + 1 },
          none)) ∧
    ((ts - d.lastTs).toNat ≤ 5000 → 68 ≤ d.changeCount →
      decoderStep tbl pct ts d =
        ({ lastTs := ts, T := d.T.setIfInBounds 0 (ts - d.lastTs), changeCount := 1, repeatCount := 0 }, none)) ∧
    (5000 < (ts - d.lastTs).toNat →
      ¬(0 < d.changeCount ∧ |((ts - d.lastTs).toNat : ℤ) - ((d.entry 0).toNat : ℤ)| ≤ 200) →
      decoderStep tbl pct ts d =
        ({ d with lastTs := ts, T := d.T.setIfInBounds 0 (ts - d.lastTs), changeCount := 1 }, none)) ∧
    (5000 < (ts - d.lastTs).toNat → 0 < d.changeCount →
      |((ts - d.lastTs).toNat : ℤ) - ((d.entry 0).toNat : ℤ)| ≤ 200 → d.repeatCount ≠ 1 →
      decoderStep tbl pct ts d =
        ({ lastTs := ts, T := d.T.setIfInBounds 0 (ts - d.lastTs), changeCount := 1, repeatCount := d.repeatCount + 1 },
          none)) ∧
    (5000 < (ts - d.lastTs).toNat → 0 < d.changeCount →
      |((ts - d.lastTs).toNat : ℤ) - ((d.entry 0).toNat : ℤ)| ≤ 200 → d.repeatCount = 1 →
      decoderStep tbl pct ts d =
        ({ lastTs := ts, T := d.T.setIfInBounds 0 (ts - d.lastTs), changeCount := 1, repeatCount := 0 },
          decodeWindow tbl d pct (d.changeCount - 1) ts))

/-- R170 and R172: the accumulator's low bit is 0 and it stays under 2^(k+1); after the at most 33 pairs of a window the
code is under 2^33. -/
def Obligations.AccumulatorBounds : Prop :=
  ∀ (d : Decoder) (p : Protocol) (pct k n : Nat),
    accAfter d p pct k % 2 = 0 ∧ accAfter d p pct k < 2 ^ (k + 1) ∧ (n ≤ 67 → attemptCode d p pct n < 2 ^ 33)

/-- R172: the code is the classified bits of the pairs after the last INVALID one, the first of them most significant.
-/
def Obligations.TheCodeIsTheBitsAfterTheLastInvalidPair : Prop :=
  ∀ (d : Decoder) (p : Protocol) (pct n j : Nat), j ≤ n / 2 →
    (∀ i, j ≤ i → i < n / 2 → pairClass d p pct i ≠ .invalid) → (j = 0 ∨ pairClass d p pct (j - 1) = .invalid) →
    attemptCode d p pct n =
      (List.range' j (n / 2 - j)).foldl (fun v i => 2 * v + if pairClass d p pct i = .bit1 then 1 else 0) 0

/-- R173 to R175, with R167: an attempt succeeds exactly on more than 6 changes and a code that is not 0, and its result
is then these five values; in a window that fits the buffer the bit length is 3 to 33. -/
def Obligations.AttemptSucceedsExactlyOnANonZeroCode : Prop :=
  ∀ (d : Decoder) (pct n : Nat) (ts : Word) (id : Nat) (p : Protocol) (r : DecodedResult),
    (attempt d pct n ts id p = some r ↔
      6 < n ∧ attemptCode d p pct n ≠ 0 ∧
        r = ⟨attemptCode d p pct n, n / 2, id, ts, (d.entry 0).toNat / p.syncUnits⟩) ∧
    (attempt d pct n ts id p = some r → n ≤ 67 → 3 ≤ r.bitLength ∧ r.bitLength ≤ 33 ∧ r.code < 2 ^ 33)

/-- R166, R111: in a table in ascending order, the decode gives the success with the least identifier, and nothing
exactly when no protocol succeeds. -/
def Obligations.DecodeTriesProtocolsInAscendingOrder : Prop :=
  ∀ (tbl : ProtocolTable) (d : Decoder) (pct n : Nat) (ts : Word), ProtocolTable.ascending tbl = true →
    (∀ r, decodeWindow tbl d pct n ts = some r ↔
      ∃ e ∈ tbl, attempt d pct n ts e.1 e.2 = some r ∧ ∀ f ∈ tbl, f.1 < e.1 → attempt d pct n ts f.1 f.2 = none) ∧
    (decodeWindow tbl d pct n ts = none ↔ ∀ e ∈ tbl, attempt d pct n ts e.1 e.2 = none)

/-- R180, for the steps of log 1: a result is published only when edge processing meets a gap that passes the repeat
test while `repeat_count` is 1. -/
def Obligations.OnlyAConfirmedGapPublishes : Prop :=
  ∀ (s t : State) (e : Event) (rest : List Event), s.pending = e :: rest → e.rstN = true → step s = .next t →
    t.result ≠ s.result →
    e.op = .process ∧ s.decoder.repeatCount = 1 ∧ 0 < s.decoder.changeCount ∧
      ∃ ts waiting, s.efifo = ts :: waiting ∧ 5000 < (ts - s.decoder.lastTs).toNat ∧
        |((ts - s.decoder.lastTs).toNat : ℤ) - ((s.decoder.entry 0).toNat : ℤ)| ≤ 200

/-- The result is replaced as a whole and counted: in a step (log 1) without a reset, either no result register and not
RX_VALID changes, or the step processes the oldest edge, all five fields are those of the one result that the decoder step
gives, RX_SEQ goes up by 1 modulo 2^32 and RX_VALID is 1 (20_memory.md R69, 10_state.md R38, R39, 44_decoder.md R176). -/
def Obligations.TheResultIsAnAtomicSnapshot : Prop :=
  ∀ (s t : State) (e : Event) (rest : List Event), s.pending = e :: rest → e.rstN = true → step s = .next t →
    (t.result = s.result ∧ t.status.rxValid = s.status.rxValid) ∨
      ∃ ts waiting r, e.op = .process ∧ s.efifo = ts :: waiting ∧
        (decoderStep Config.protocols s.regs.tolPct.toNat ts s.decoder).2 = some r ∧
        t.result = { codeLo := BitVec.ofNat 32 r.code
                     codeHi := BitVec.ofNat 32 (r.code / 2 ^ 32 % 2)
                     metaWord := BitVec.ofNat 32 (r.bitLength % 64 + (r.protocol % 16) * 256)
                     unitDelay := BitVec.ofNat 32 r.unitDelay
                     timestamp := r.timestamp
                     seqCount := s.result.seqCount + 1#32 } ∧
        t.status.rxValid = true

/-- R184: no instruction and no segment step changes the timing buffer, the two counts or the last timestamp. -/
def Obligations.OnlyEdgeProcessingChangesTheDecoder : Prop :=
  (∀ (i : Instr) (s t : State), exec i s = .next t → t.decoder = s.decoder) ∧
    ∀ s : State, (segmentStep s).decoder = s.decoder

/-- The decoder's state is hidden from the host: no instruction's effect on anything else, a read's value among it,
depends on it (10_state.md R54). -/
def Obligations.TheDecoderIsHiddenFromTheHost : Prop :=
  ∀ (i : Instr) (s t : State) (d : Decoder), exec i s = .next t →
    exec i { s with decoder := d } = .next { t with decoder := d }

/-- Buffer overflow safety (44_decoder.md R164, R183): events with no gap publish nothing, and once they run past the
buffer's 68 entries `repeat_count` is 0. -/
def Obligations.NoiseWithoutAGapPublishesNothing : Prop :=
  ∀ (tbl : ProtocolTable) (pct : Nat) (durs : List Word) (d : Decoder), d.changeCount ≤ 68 →
    (∀ x ∈ durs, x.toNat ≤ 5000) →
    (feed tbl pct durs d).2 = [] ∧ (68 < d.changeCount + durs.length → (feed tbl pct durs d).1.repeatCount = 0)

/-- The round trip of 44_decoder.md R181: a receiver that starts idle and is fed the train's durations after a first
edge publishes the code at the 3rd, 5th, 7th, … gap, with and without the closing edge. Two premises are sharper than
R181's (log 12): the tolerance must keep the first test of the classifier from taking a long-short pair, and the first
duration must not repeat the sync gap even when it is no gap itself. -/
def Obligations.ATransmittedCodeIsDecoded : Prop :=
  ∀ (id : Nat) (p : Protocol) (c w unit reps pct : Nat) (d0 : Word) (d : Decoder),
    lookup Config.protocols id = some p → c ≠ 0 → c < 2 ^ w → 3 ≤ w → w ≤ 32 →
    5000 < p.syncUnits * unit → p.pulseUnits * unit ≤ 5000 → pct < 100 * (p.pulseUnits - 1) →
    200 < |(d0.toNat : ℤ) - ((p.syncUnits * unit : Nat) : ℤ)| → d.changeCount = 0 → d.repeatCount = 0 →
    (feed Config.protocols pct (d0 :: (pulseTrain p c w unit reps).map fun g => BitVec.ofNat 32 g.duration) d).2 =
      (List.range ((reps - 1) / 2)).map (fun j =>
        ⟨c, w, id, d.lastTs + d0 + BitVec.ofNat 32 ((2 * j + 3) * (unit * (w * (1 + p.pulseUnits) + 1 + p.syncUnits))),
          unit⟩) ∧
    (feed Config.protocols pct
        (d0 :: ((pulseTrain p c w unit reps).map fun g => BitVec.ofNat 32 g.duration).dropLast) d).2 =
      (List.range ((reps - 2) / 2)).map (fun j =>
        ⟨c, w, id, d.lastTs + d0 + BitVec.ofNat 32 ((2 * j + 3) * (unit * (w * (1 + p.pulseUnits) + 1 + p.syncUnits))),
          unit⟩)

/-- The alternative `d0 <= 5000` in clause (c) of 44_decoder.md R181 does not rule an early publication out: by R159 the
first stored duration need not be a gap. Code 1 of 3 bits, protocol 2, 510 µs, two repetitions after a first duration of
4950 (log 12). -/
def Obligations.AShortFirstDurationCanConfirmEarly : Prop :=
  ((feed Config.protocols 20
      (4950#32 :: (pulseTrain ⟨10, 2⟩ 1 3 510 2).map fun g => BitVec.ofNat 32 g.duration) State.reset.decoder).2.map
    DecodedResult.code) = [1]

/-! ### The whole machine -/

/-- The invariants hold at reset (10_state.md R50, 70_reset_and_hazards.md R210). -/
def Obligations.TheInvariantHoldsAtReset : Prop := State.reset.Inv

/-- Every step (log 1) keeps the invariants: the counts in range, BUSY with a segment on the pin and only in TX, edges
waiting only in RX, the pin outputs as the mode and the segment say, reserved bits 0, the rest of the train the end of
the latched train, and a published result never empty (10_state.md R24, R36, R38, R46, R50, 42_transmitter.md R128,
R137, 44_decoder.md R179). -/
def Obligations.EveryStepKeepsTheInvariant : Prop :=
  ∀ s t : State, s.Inv → step s = .next t → t.Inv

/-- From every state that meets the invariants, a schedule (log 1) of edge processings and segment steps alone, no
longer than the work left, leads to quiescence in the same mode (70_reset_and_hazards.md R226, R227, 42_transmitter.md
R133). -/
def Obligations.TheBlockCanAlwaysComeToRest : Prop :=
  ∀ s : State, s.Inv →
    ∃ (es : List Event) (t : State),
      (∀ e ∈ es, e.rstN = true ∧ (e.op = .process ∨ e.op = .segStep)) ∧
      es.length ≤ s.efifo.length + s.tx.rest.length + 1 ∧
      Sys2Proof.core.run es.length { s with pending := es } = .next t ∧
      t.Quiescent ∧ t.status.mode = s.status.mode ∧ t.pending = []

/-! ### Blocks built with other tables (00_scope.md R8) -/

/-- The table is an argument of the machine (00_scope.md R8; log 6): `exec` and `step` are the block of the default table; a
step of a block runs that block's instructions and edge processing; in a block of any legal table, ENC and SEND find exactly
the table's entries (41_encoder.md R110, R114 to R116, 42_transmitter.md R125), and every other instruction is as in the
default block. -/
def Obligations.TheTableIsAnArgumentOfTheMachine : Prop :=
  ((∀ (i : Instr) (s : State), execUnder Config.protocols i s = exec i s) ∧
    ∀ s : State, stepUnder Config.protocols s = step s) ∧
  (∀ (tbl : ProtocolTable) (s : State) (now : Word) (rest : List Event),
    (∀ c i, s.pending = eventAt now (.port c) :: rest → decode now c = .ok i →
      stepUnder tbl s = execUnder tbl i { s with nowUs := now, pending := rest }) ∧
    ∀ ts waiting, s.pending = eventAt now .process :: rest → s.efifo = ts :: waiting →
      ∃ t, stepUnder tbl s = .next t ∧
        t.decoder = (decoderStep tbl s.regs.tolPct.toNat ts s.decoder).1 ∧
        ((decoderStep tbl s.regs.tolPct.toNat ts s.decoder).2 = none → t.result = s.result) ∧
        ∀ r, (decoderStep tbl s.regs.tolPct.toNat ts s.decoder).2 = some r →
          t.result.codeLo = BitVec.ofNat 32 r.code ∧ t.result.timestamp = r.timestamp) ∧
  ∀ (tbl : ProtocolTable) (s : State), ProtocolTable.wf tbl = true →
    (∀ i, i ∉ [Instr.send, .encLogic0, .encLogic1, .encSync] → (∀ w, i ≠ .regWrite .cmd w) →
      execUnder tbl i s = exec i s) ∧
    (∀ (w : Word) (i : Instr), decode s.nowUs (.cmd w) = .ok i →
      execUnder tbl (.regWrite .cmd w) s = execUnder tbl i s) ∧
    (∀ p : Protocol, s.regs.pulseUs ≠ 0#16 → (s.regs.protocol.toNat, p) ∈ tbl →
      (∃ h l : Word, h.toNat = s.regs.pulseUs.toNat ∧ l.toNat = p.pulseUnits * s.regs.pulseUs.toNat ∧
        execUnder tbl .encLogic0 s =
          .next { s with wave := { high := h, low := l }, status := { s.status with err := .ok } } ∧
        execUnder tbl .encLogic1 s =
          .next { s with wave := { high := l, low := h }, status := { s.status with err := .ok } }) ∧
      (∃ h l : Word, h.toNat = s.regs.pulseUs.toNat ∧ l.toNat = p.syncUnits * s.regs.pulseUs.toNat ∧
        execUnder tbl .encSync s =
          .next { s with wave := { high := h, low := l }, status := { s.status with err := .ok } }) ∧
      (s.status.busy = false → s.status.mode = .tx → 1 ≤ s.regs.bitWidth.toNat → s.regs.bitWidth.toNat ≤ 32 →
        s.regs.txCode.toNat < 2 ^ s.regs.bitWidth.toNat → s.regs.reps ≠ 0#8 →
        ∃ g rest,
          pulseTrain p s.regs.txCode.toNat s.regs.bitWidth.toNat s.regs.pulseUs.toNat s.regs.reps.toNat = g :: rest ∧
          execUnder tbl .send s = .next
            { s with
              tx := { code := s.regs.txCode, width := s.regs.bitWidth, proto := s.regs.protocol,
                      pulse := s.regs.pulseUs, reps := s.regs.reps, cur := some g, rest := rest,
                      segStart := s.nowUs }
              status := { s.status with busy := true, txAbort := false, err := .ok }
              pins := { s.pins with out := g.level }
              trace := s.trace ++ [.seg g.level g.duration] })) ∧
    (s.regs.pulseUs ≠ 0#16 → (∀ p, (s.regs.protocol.toNat, p) ∉ tbl) →
      (∀ i ∈ [Instr.encLogic0, .encLogic1, .encSync],
        execUnder tbl i s = .next { s with status := { s.status with err := .unsupportedProtocol } }) ∧
      (s.status.busy = false → s.status.mode = .tx → 1 ≤ s.regs.bitWidth.toNat → s.regs.bitWidth.toNat ≤ 32 →
        execUnder tbl .send s = .next { s with status := { s.status with err := .unsupportedProtocol } }))
end

