-- ==== Sys2Proof/Laws/State.lean ====
section
/-! SUPPORT. One lemma per field per update of the state, each true by rfl, so that no later proof unfolds a record
update. -/

namespace Sys2Proof.Machine

/-! ### raise -/

@[simp] theorem raise_status_mode (e : ErrCode) (s : State) : (raise e s).status.mode = s.status.mode := rfl
@[simp] theorem raise_status_busy (e : ErrCode) (s : State) : (raise e s).status.busy = s.status.busy := rfl
@[simp] theorem raise_status_txAbort (e : ErrCode) (s : State) : (raise e s).status.txAbort = s.status.txAbort := rfl
@[simp] theorem raise_status_err (e : ErrCode) (s : State) : (raise e s).status.err = e := rfl
@[simp] theorem raise_status_rxOvf (e : ErrCode) (s : State) : (raise e s).status.rxOvf = s.status.rxOvf := rfl
@[simp] theorem raise_status_rxValid (e : ErrCode) (s : State) : (raise e s).status.rxValid = s.status.rxValid := rfl
@[simp] theorem raise_regs (e : ErrCode) (s : State) : (raise e s).regs = s.regs := rfl
@[simp] theorem raise_result (e : ErrCode) (s : State) : (raise e s).result = s.result := rfl
@[simp] theorem raise_wave (e : ErrCode) (s : State) : (raise e s).wave = s.wave := rfl
@[simp] theorem raise_decoder (e : ErrCode) (s : State) : (raise e s).decoder = s.decoder := rfl
@[simp] theorem raise_efifo (e : ErrCode) (s : State) : (raise e s).efifo = s.efifo := rfl
@[simp] theorem raise_tx (e : ErrCode) (s : State) : (raise e s).tx = s.tx := rfl
@[simp] theorem raise_pins (e : ErrCode) (s : State) : (raise e s).pins = s.pins := rfl
@[simp] theorem raise_trace (e : ErrCode) (s : State) : (raise e s).trace = s.trace := rfl
@[simp] theorem raise_nowUs (e : ErrCode) (s : State) : (raise e s).nowUs = s.nowUs := rfl
@[simp] theorem raise_rdata (e : ErrCode) (s : State) : (raise e s).rdata = s.rdata := rfl
@[simp] theorem raise_pending (e : ErrCode) (s : State) : (raise e s).pending = s.pending := rfl

/-! ### succeed -/

@[simp] theorem succeed_status_mode (s : State) : (succeed s).status.mode = s.status.mode := rfl
@[simp] theorem succeed_status_busy (s : State) : (succeed s).status.busy = s.status.busy := rfl
@[simp] theorem succeed_status_txAbort (s : State) : (succeed s).status.txAbort = s.status.txAbort := rfl
@[simp] theorem succeed_status_err (s : State) : (succeed s).status.err = .ok := rfl
@[simp] theorem succeed_status_rxOvf (s : State) : (succeed s).status.rxOvf = s.status.rxOvf := rfl
@[simp] theorem succeed_status_rxValid (s : State) : (succeed s).status.rxValid = s.status.rxValid := rfl
@[simp] theorem succeed_regs (s : State) : (succeed s).regs = s.regs := rfl
@[simp] theorem succeed_result (s : State) : (succeed s).result = s.result := rfl
@[simp] theorem succeed_wave (s : State) : (succeed s).wave = s.wave := rfl
@[simp] theorem succeed_decoder (s : State) : (succeed s).decoder = s.decoder := rfl
@[simp] theorem succeed_efifo (s : State) : (succeed s).efifo = s.efifo := rfl
@[simp] theorem succeed_tx (s : State) : (succeed s).tx = s.tx := rfl
@[simp] theorem succeed_pins (s : State) : (succeed s).pins = s.pins := rfl
@[simp] theorem succeed_trace (s : State) : (succeed s).trace = s.trace := rfl
@[simp] theorem succeed_nowUs (s : State) : (succeed s).nowUs = s.nowUs := rfl
@[simp] theorem succeed_rdata (s : State) : (succeed s).rdata = s.rdata := rfl
@[simp] theorem succeed_pending (s : State) : (succeed s).pending = s.pending := rfl

/-! ### emit -/

@[simp] theorem emit_status (g : Segment) (s : State) : (emit g s).status = s.status := rfl
@[simp] theorem emit_regs (g : Segment) (s : State) : (emit g s).regs = s.regs := rfl
@[simp] theorem emit_result (g : Segment) (s : State) : (emit g s).result = s.result := rfl
@[simp] theorem emit_wave (g : Segment) (s : State) : (emit g s).wave = s.wave := rfl
@[simp] theorem emit_decoder (g : Segment) (s : State) : (emit g s).decoder = s.decoder := rfl
@[simp] theorem emit_efifo (g : Segment) (s : State) : (emit g s).efifo = s.efifo := rfl
@[simp] theorem emit_tx (g : Segment) (s : State) : (emit g s).tx = s.tx := rfl
@[simp] theorem emit_pins_dir (g : Segment) (s : State) : (emit g s).pins.dir = s.pins.dir := rfl
@[simp] theorem emit_pins_out (g : Segment) (s : State) : (emit g s).pins.out = g.level := rfl
@[simp] theorem emit_pins_edgeEn (g : Segment) (s : State) : (emit g s).pins.edgeEn = s.pins.edgeEn := rfl
@[simp] theorem emit_trace (g : Segment) (s : State) : (emit g s).trace = s.trace ++ [.seg g.level g.duration] := rfl
@[simp] theorem emit_nowUs (g : Segment) (s : State) : (emit g s).nowUs = s.nowUs := rfl
@[simp] theorem emit_rdata (g : Segment) (s : State) : (emit g s).rdata = s.rdata := rfl
@[simp] theorem emit_pending (g : Segment) (s : State) : (emit g s).pending = s.pending := rfl

/-! ### endOfTrain -/

@[simp] theorem endOfTrain_status_mode (s : State) : (endOfTrain s).status.mode = s.status.mode := rfl
@[simp] theorem endOfTrain_status_busy (s : State) : (endOfTrain s).status.busy = false := rfl
@[simp] theorem endOfTrain_status_txAbort (s : State) : (endOfTrain s).status.txAbort = s.status.txAbort := rfl
@[simp] theorem endOfTrain_status_err (s : State) : (endOfTrain s).status.err = s.status.err := rfl
@[simp] theorem endOfTrain_status_rxOvf (s : State) : (endOfTrain s).status.rxOvf = s.status.rxOvf := rfl
@[simp] theorem endOfTrain_status_rxValid (s : State) : (endOfTrain s).status.rxValid = s.status.rxValid := rfl
@[simp] theorem endOfTrain_regs (s : State) : (endOfTrain s).regs = s.regs := rfl
@[simp] theorem endOfTrain_result (s : State) : (endOfTrain s).result = s.result := rfl
@[simp] theorem endOfTrain_wave (s : State) : (endOfTrain s).wave = s.wave := rfl
@[simp] theorem endOfTrain_decoder (s : State) : (endOfTrain s).decoder = s.decoder := rfl
@[simp] theorem endOfTrain_efifo (s : State) : (endOfTrain s).efifo = s.efifo := rfl
@[simp] theorem endOfTrain_tx_code (s : State) : (endOfTrain s).tx.code = s.tx.code := rfl
@[simp] theorem endOfTrain_tx_width (s : State) : (endOfTrain s).tx.width = s.tx.width := rfl
@[simp] theorem endOfTrain_tx_proto (s : State) : (endOfTrain s).tx.proto = s.tx.proto := rfl
@[simp] theorem endOfTrain_tx_pulse (s : State) : (endOfTrain s).tx.pulse = s.tx.pulse := rfl
@[simp] theorem endOfTrain_tx_reps (s : State) : (endOfTrain s).tx.reps = s.tx.reps := rfl
@[simp] theorem endOfTrain_tx_cur (s : State) : (endOfTrain s).tx.cur = none := rfl
@[simp] theorem endOfTrain_tx_rest (s : State) : (endOfTrain s).tx.rest = s.tx.rest := rfl
@[simp] theorem endOfTrain_tx_segStart (s : State) : (endOfTrain s).tx.segStart = s.tx.segStart := rfl
@[simp] theorem endOfTrain_pins_dir (s : State) : (endOfTrain s).pins.dir = s.pins.dir := rfl
@[simp] theorem endOfTrain_pins_out (s : State) : (endOfTrain s).pins.out = .low := rfl
@[simp] theorem endOfTrain_pins_edgeEn (s : State) : (endOfTrain s).pins.edgeEn = s.pins.edgeEn := rfl
@[simp] theorem endOfTrain_trace (s : State) : (endOfTrain s).trace = s.trace := rfl
@[simp] theorem endOfTrain_nowUs (s : State) : (endOfTrain s).nowUs = s.nowUs := rfl
@[simp] theorem endOfTrain_rdata (s : State) : (endOfTrain s).rdata = s.rdata := rfl
@[simp] theorem endOfTrain_pending (s : State) : (endOfTrain s).pending = s.pending := rfl

/-! ### abortSend -/

@[simp] theorem abortSend_status_mode (s : State) : (abortSend s).status.mode = s.status.mode := rfl
@[simp] theorem abortSend_status_busy (s : State) : (abortSend s).status.busy = false := rfl
@[simp] theorem abortSend_status_txAbort (s : State) : (abortSend s).status.txAbort = true := rfl
@[simp] theorem abortSend_status_err (s : State) : (abortSend s).status.err = s.status.err := rfl
@[simp] theorem abortSend_status_rxOvf (s : State) : (abortSend s).status.rxOvf = s.status.rxOvf := rfl
@[simp] theorem abortSend_status_rxValid (s : State) : (abortSend s).status.rxValid = s.status.rxValid := rfl
@[simp] theorem abortSend_regs (s : State) : (abortSend s).regs = s.regs := rfl
@[simp] theorem abortSend_result (s : State) : (abortSend s).result = s.result := rfl
@[simp] theorem abortSend_wave (s : State) : (abortSend s).wave = s.wave := rfl
@[simp] theorem abortSend_decoder (s : State) : (abortSend s).decoder = s.decoder := rfl
@[simp] theorem abortSend_efifo (s : State) : (abortSend s).efifo = s.efifo := rfl
@[simp] theorem abortSend_tx_code (s : State) : (abortSend s).tx.code = s.tx.code := rfl
@[simp] theorem abortSend_tx_width (s : State) : (abortSend s).tx.width = s.tx.width := rfl
@[simp] theorem abortSend_tx_proto (s : State) : (abortSend s).tx.proto = s.tx.proto := rfl
@[simp] theorem abortSend_tx_pulse (s : State) : (abortSend s).tx.pulse = s.tx.pulse := rfl
@[simp] theorem abortSend_tx_reps (s : State) : (abortSend s).tx.reps = s.tx.reps := rfl
@[simp] theorem abortSend_tx_cur (s : State) : (abortSend s).tx.cur = none := rfl
@[simp] theorem abortSend_tx_rest (s : State) : (abortSend s).tx.rest = [] := rfl
@[simp] theorem abortSend_tx_segStart (s : State) : (abortSend s).tx.segStart = s.tx.segStart := rfl
@[simp] theorem abortSend_pins_dir (s : State) : (abortSend s).pins.dir = s.pins.dir := rfl
@[simp] theorem abortSend_pins_out (s : State) : (abortSend s).pins.out = .low := rfl
@[simp] theorem abortSend_pins_edgeEn (s : State) : (abortSend s).pins.edgeEn = s.pins.edgeEn := rfl
@[simp] theorem abortSend_trace (s : State) : (abortSend s).trace = s.trace ++ [.abort] := rfl
@[simp] theorem abortSend_nowUs (s : State) : (abortSend s).nowUs = s.nowUs := rfl
@[simp] theorem abortSend_rdata (s : State) : (abortSend s).rdata = s.rdata := rfl
@[simp] theorem abortSend_pending (s : State) : (abortSend s).pending = s.pending := rfl

/-! ### releasePin -/

@[simp] theorem releasePin_status (s : State) : (releasePin s).status = s.status := rfl
@[simp] theorem releasePin_regs (s : State) : (releasePin s).regs = s.regs := rfl
@[simp] theorem releasePin_result (s : State) : (releasePin s).result = s.result := rfl
@[simp] theorem releasePin_wave (s : State) : (releasePin s).wave = s.wave := rfl
@[simp] theorem releasePin_decoder (s : State) : (releasePin s).decoder = s.decoder := rfl
@[simp] theorem releasePin_efifo (s : State) : (releasePin s).efifo = s.efifo := rfl
@[simp] theorem releasePin_tx (s : State) : (releasePin s).tx = s.tx := rfl
@[simp] theorem releasePin_pins (s : State) : (releasePin s).pins = s.pins := rfl
@[simp] theorem releasePin_trace (s : State) : (releasePin s).trace = s.trace ++ [.release] := rfl
@[simp] theorem releasePin_nowUs (s : State) : (releasePin s).nowUs = s.nowUs := rfl
@[simp] theorem releasePin_rdata (s : State) : (releasePin s).rdata = s.rdata := rfl
@[simp] theorem releasePin_pending (s : State) : (releasePin s).pending = s.pending := rfl

/-! ### driveRdata -/

@[simp] theorem driveRdata_status (v : Word) (s : State) : (driveRdata v s).status = s.status := rfl
@[simp] theorem driveRdata_regs (v : Word) (s : State) : (driveRdata v s).regs = s.regs := rfl
@[simp] theorem driveRdata_result (v : Word) (s : State) : (driveRdata v s).result = s.result := rfl
@[simp] theorem driveRdata_wave (v : Word) (s : State) : (driveRdata v s).wave = s.wave := rfl
@[simp] theorem driveRdata_decoder (v : Word) (s : State) : (driveRdata v s).decoder = s.decoder := rfl
@[simp] theorem driveRdata_efifo (v : Word) (s : State) : (driveRdata v s).efifo = s.efifo := rfl
@[simp] theorem driveRdata_tx (v : Word) (s : State) : (driveRdata v s).tx = s.tx := rfl
@[simp] theorem driveRdata_pins (v : Word) (s : State) : (driveRdata v s).pins = s.pins := rfl
@[simp] theorem driveRdata_trace (v : Word) (s : State) : (driveRdata v s).trace = s.trace := rfl
@[simp] theorem driveRdata_nowUs (v : Word) (s : State) : (driveRdata v s).nowUs = s.nowUs := rfl
@[simp] theorem driveRdata_rdata (v : Word) (s : State) : (driveRdata v s).rdata = v := rfl
@[simp] theorem driveRdata_pending (v : Word) (s : State) : (driveRdata v s).pending = s.pending := rfl

/-! ### sampleTime -/

@[simp] theorem sampleTime_status (now : Word) (s : State) : (sampleTime now s).status = s.status := rfl
@[simp] theorem sampleTime_regs (now : Word) (s : State) : (sampleTime now s).regs = s.regs := rfl
@[simp] theorem sampleTime_result (now : Word) (s : State) : (sampleTime now s).result = s.result := rfl
@[simp] theorem sampleTime_wave (now : Word) (s : State) : (sampleTime now s).wave = s.wave := rfl
@[simp] theorem sampleTime_decoder (now : Word) (s : State) : (sampleTime now s).decoder = s.decoder := rfl
@[simp] theorem sampleTime_efifo (now : Word) (s : State) : (sampleTime now s).efifo = s.efifo := rfl
@[simp] theorem sampleTime_tx (now : Word) (s : State) : (sampleTime now s).tx = s.tx := rfl
@[simp] theorem sampleTime_pins (now : Word) (s : State) : (sampleTime now s).pins = s.pins := rfl
@[simp] theorem sampleTime_trace (now : Word) (s : State) : (sampleTime now s).trace = s.trace := rfl
@[simp] theorem sampleTime_nowUs (now : Word) (s : State) : (sampleTime now s).nowUs = now := rfl
@[simp] theorem sampleTime_rdata (now : Word) (s : State) : (sampleTime now s).rdata = s.rdata := rfl
@[simp] theorem sampleTime_pending (now : Word) (s : State) : (sampleTime now s).pending = s.pending := rfl

/-! ### setWave -/

@[simp] theorem setWave_status (w : Nat × Nat) (s : State) : (setWave w s).status = s.status := rfl
@[simp] theorem setWave_regs (w : Nat × Nat) (s : State) : (setWave w s).regs = s.regs := rfl
@[simp] theorem setWave_result (w : Nat × Nat) (s : State) : (setWave w s).result = s.result := rfl
@[simp] theorem setWave_wave_high (w : Nat × Nat) (s : State) : (setWave w s).wave.high = BitVec.ofNat 32 w.1 := rfl
@[simp] theorem setWave_wave_low (w : Nat × Nat) (s : State) : (setWave w s).wave.low = BitVec.ofNat 32 w.2 := rfl
@[simp] theorem setWave_decoder (w : Nat × Nat) (s : State) : (setWave w s).decoder = s.decoder := rfl
@[simp] theorem setWave_efifo (w : Nat × Nat) (s : State) : (setWave w s).efifo = s.efifo := rfl
@[simp] theorem setWave_tx (w : Nat × Nat) (s : State) : (setWave w s).tx = s.tx := rfl
@[simp] theorem setWave_pins (w : Nat × Nat) (s : State) : (setWave w s).pins = s.pins := rfl
@[simp] theorem setWave_trace (w : Nat × Nat) (s : State) : (setWave w s).trace = s.trace := rfl
@[simp] theorem setWave_nowUs (w : Nat × Nat) (s : State) : (setWave w s).nowUs = s.nowUs := rfl
@[simp] theorem setWave_rdata (w : Nat × Nat) (s : State) : (setWave w s).rdata = s.rdata := rfl
@[simp] theorem setWave_pending (w : Nat × Nat) (s : State) : (setWave w s).pending = s.pending := rfl

/-! ### latchOperands -/

@[simp] theorem latchOperands_status (s : State) : (latchOperands s).status = s.status := rfl
@[simp] theorem latchOperands_regs (s : State) : (latchOperands s).regs = s.regs := rfl
@[simp] theorem latchOperands_result (s : State) : (latchOperands s).result = s.result := rfl
@[simp] theorem latchOperands_wave (s : State) : (latchOperands s).wave = s.wave := rfl
@[simp] theorem latchOperands_decoder (s : State) : (latchOperands s).decoder = s.decoder := rfl
@[simp] theorem latchOperands_efifo (s : State) : (latchOperands s).efifo = s.efifo := rfl
@[simp] theorem latchOperands_tx_code (s : State) : (latchOperands s).tx.code = s.regs.txCode := rfl
@[simp] theorem latchOperands_tx_width (s : State) : (latchOperands s).tx.width = s.regs.bitWidth := rfl
@[simp] theorem latchOperands_tx_proto (s : State) : (latchOperands s).tx.proto = s.regs.protocol := rfl
@[simp] theorem latchOperands_tx_pulse (s : State) : (latchOperands s).tx.pulse = s.regs.pulseUs := rfl
@[simp] theorem latchOperands_tx_reps (s : State) : (latchOperands s).tx.reps = s.regs.reps := rfl
@[simp] theorem latchOperands_tx_cur (s : State) : (latchOperands s).tx.cur = s.tx.cur := rfl
@[simp] theorem latchOperands_tx_rest (s : State) : (latchOperands s).tx.rest = s.tx.rest := rfl
@[simp] theorem latchOperands_tx_segStart (s : State) : (latchOperands s).tx.segStart = s.tx.segStart := rfl
@[simp] theorem latchOperands_pins (s : State) : (latchOperands s).pins = s.pins := rfl
@[simp] theorem latchOperands_trace (s : State) : (latchOperands s).trace = s.trace := rfl
@[simp] theorem latchOperands_nowUs (s : State) : (latchOperands s).nowUs = s.nowUs := rfl
@[simp] theorem latchOperands_rdata (s : State) : (latchOperands s).rdata = s.rdata := rfl
@[simp] theorem latchOperands_pending (s : State) : (latchOperands s).pending = s.pending := rfl

/-! ### clearAbort -/

@[simp] theorem clearAbort_status_mode (s : State) : (clearAbort s).status.mode = s.status.mode := rfl
@[simp] theorem clearAbort_status_busy (s : State) : (clearAbort s).status.busy = s.status.busy := rfl
@[simp] theorem clearAbort_status_txAbort (s : State) : (clearAbort s).status.txAbort = false := rfl
@[simp] theorem clearAbort_status_err (s : State) : (clearAbort s).status.err = s.status.err := rfl
@[simp] theorem clearAbort_status_rxOvf (s : State) : (clearAbort s).status.rxOvf = s.status.rxOvf := rfl
@[simp] theorem clearAbort_status_rxValid (s : State) : (clearAbort s).status.rxValid = s.status.rxValid := rfl
@[simp] theorem clearAbort_regs (s : State) : (clearAbort s).regs = s.regs := rfl
@[simp] theorem clearAbort_result (s : State) : (clearAbort s).result = s.result := rfl
@[simp] theorem clearAbort_wave (s : State) : (clearAbort s).wave = s.wave := rfl
@[simp] theorem clearAbort_decoder (s : State) : (clearAbort s).decoder = s.decoder := rfl
@[simp] theorem clearAbort_efifo (s : State) : (clearAbort s).efifo = s.efifo := rfl
@[simp] theorem clearAbort_tx (s : State) : (clearAbort s).tx = s.tx := rfl
@[simp] theorem clearAbort_pins (s : State) : (clearAbort s).pins = s.pins := rfl
@[simp] theorem clearAbort_trace (s : State) : (clearAbort s).trace = s.trace := rfl
@[simp] theorem clearAbort_nowUs (s : State) : (clearAbort s).nowUs = s.nowUs := rfl
@[simp] theorem clearAbort_rdata (s : State) : (clearAbort s).rdata = s.rdata := rfl
@[simp] theorem clearAbort_pending (s : State) : (clearAbort s).pending = s.pending := rfl

/-! ### beginSegment -/

@[simp] theorem beginSegment_status (g : Segment) (rest : List Segment) (s : State) : (beginSegment g rest s).status = s.status := rfl
@[simp] theorem beginSegment_regs (g : Segment) (rest : List Segment) (s : State) : (beginSegment g rest s).regs = s.regs := rfl
@[simp] theorem beginSegment_result (g : Segment) (rest : List Segment) (s : State) : (beginSegment g rest s).result = s.result := rfl
@[simp] theorem beginSegment_wave (g : Segment) (rest : List Segment) (s : State) : (beginSegment g rest s).wave = s.wave := rfl
@[simp] theorem beginSegment_decoder (g : Segment) (rest : List Segment) (s : State) : (beginSegment g rest s).decoder = s.decoder := rfl
@[simp] theorem beginSegment_efifo (g : Segment) (rest : List Segment) (s : State) : (beginSegment g rest s).efifo = s.efifo := rfl
@[simp] theorem beginSegment_tx_code (g : Segment) (rest : List Segment) (s : State) : (beginSegment g rest s).tx.code = s.tx.code := rfl
@[simp] theorem beginSegment_tx_width (g : Segment) (rest : List Segment) (s : State) : (beginSegment g rest s).tx.width = s.tx.width := rfl
@[simp] theorem beginSegment_tx_proto (g : Segment) (rest : List Segment) (s : State) : (beginSegment g rest s).tx.proto = s.tx.proto := rfl
@[simp] theorem beginSegment_tx_pulse (g : Segment) (rest : List Segment) (s : State) : (beginSegment g rest s).tx.pulse = s.tx.pulse := rfl
@[simp] theorem beginSegment_tx_reps (g : Segment) (rest : List Segment) (s : State) : (beginSegment g rest s).tx.reps = s.tx.reps := rfl
@[simp] theorem beginSegment_tx_cur (g : Segment) (rest : List Segment) (s : State) : (beginSegment g rest s).tx.cur = some g := rfl
@[simp] theorem beginSegment_tx_rest (g : Segment) (rest : List Segment) (s : State) : (beginSegment g rest s).tx.rest = rest := rfl
@[simp] theorem beginSegment_tx_segStart (g : Segment) (rest : List Segment) (s : State) : (beginSegment g rest s).tx.segStart = s.nowUs := rfl
@[simp] theorem beginSegment_pins_dir (g : Segment) (rest : List Segment) (s : State) : (beginSegment g rest s).pins.dir = s.pins.dir := rfl
@[simp] theorem beginSegment_pins_out (g : Segment) (rest : List Segment) (s : State) : (beginSegment g rest s).pins.out = g.level := rfl
@[simp] theorem beginSegment_pins_edgeEn (g : Segment) (rest : List Segment) (s : State) : (beginSegment g rest s).pins.edgeEn = s.pins.edgeEn := rfl
@[simp] theorem beginSegment_trace (g : Segment) (rest : List Segment) (s : State) : (beginSegment g rest s).trace = s.trace ++ [.seg g.level g.duration] := rfl
@[simp] theorem beginSegment_nowUs (g : Segment) (rest : List Segment) (s : State) : (beginSegment g rest s).nowUs = s.nowUs := rfl
@[simp] theorem beginSegment_rdata (g : Segment) (rest : List Segment) (s : State) : (beginSegment g rest s).rdata = s.rdata := rfl
@[simp] theorem beginSegment_pending (g : Segment) (rest : List Segment) (s : State) : (beginSegment g rest s).pending = s.pending := rfl

/-! ### allOff -/

@[simp] theorem allOff_status_mode (s : State) : (allOff s).status.mode = .off := rfl
@[simp] theorem allOff_status_busy (s : State) : (allOff s).status.busy = s.status.busy := rfl
@[simp] theorem allOff_status_txAbort (s : State) : (allOff s).status.txAbort = s.status.txAbort := rfl
@[simp] theorem allOff_status_err (s : State) : (allOff s).status.err = s.status.err := rfl
@[simp] theorem allOff_status_rxOvf (s : State) : (allOff s).status.rxOvf = s.status.rxOvf := rfl
@[simp] theorem allOff_status_rxValid (s : State) : (allOff s).status.rxValid = s.status.rxValid := rfl
@[simp] theorem allOff_regs (s : State) : (allOff s).regs = s.regs := rfl
@[simp] theorem allOff_result (s : State) : (allOff s).result = s.result := rfl
@[simp] theorem allOff_wave (s : State) : (allOff s).wave = s.wave := rfl
@[simp] theorem allOff_decoder (s : State) : (allOff s).decoder = s.decoder := rfl
@[simp] theorem allOff_efifo (s : State) : (allOff s).efifo = [] := rfl
@[simp] theorem allOff_tx (s : State) : (allOff s).tx = s.tx := rfl
@[simp] theorem allOff_pins_dir (s : State) : (allOff s).pins.dir = .input := rfl
@[simp] theorem allOff_pins_out (s : State) : (allOff s).pins.out = .low := rfl
@[simp] theorem allOff_pins_edgeEn (s : State) : (allOff s).pins.edgeEn = false := rfl
@[simp] theorem allOff_trace (s : State) : (allOff s).trace = s.trace := rfl
@[simp] theorem allOff_nowUs (s : State) : (allOff s).nowUs = s.nowUs := rfl
@[simp] theorem allOff_rdata (s : State) : (allOff s).rdata = s.rdata := rfl
@[simp] theorem allOff_pending (s : State) : (allOff s).pending = s.pending := rfl

/-! ### publish -/

@[simp] theorem publish_status_mode (r : DecodedResult) (s : State) : (publish r s).status.mode = s.status.mode := rfl
@[simp] theorem publish_status_busy (r : DecodedResult) (s : State) : (publish r s).status.busy = s.status.busy := rfl
@[simp] theorem publish_status_txAbort (r : DecodedResult) (s : State) : (publish r s).status.txAbort = s.status.txAbort := rfl
@[simp] theorem publish_status_err (r : DecodedResult) (s : State) : (publish r s).status.err = s.status.err := rfl
@[simp] theorem publish_status_rxOvf (r : DecodedResult) (s : State) : (publish r s).status.rxOvf = s.status.rxOvf := rfl
@[simp] theorem publish_status_rxValid (r : DecodedResult) (s : State) : (publish r s).status.rxValid = true := rfl
@[simp] theorem publish_regs (r : DecodedResult) (s : State) : (publish r s).regs = s.regs := rfl
@[simp] theorem publish_result_codeLo (r : DecodedResult) (s : State) : (publish r s).result.codeLo = BitVec.ofNat 32 r.code := rfl
@[simp] theorem publish_result_codeHi (r : DecodedResult) (s : State) : (publish r s).result.codeHi = 0#31 ++ BitVec.ofBool (r.code.testBit 32) := rfl
@[simp] theorem publish_result_metaWord (r : DecodedResult) (s : State) : (publish r s).result.metaWord = resultMeta r := rfl
@[simp] theorem publish_result_unitDelay (r : DecodedResult) (s : State) : (publish r s).result.unitDelay = BitVec.ofNat 32 r.unitDelay := rfl
@[simp] theorem publish_result_timestamp (r : DecodedResult) (s : State) : (publish r s).result.timestamp = r.timestamp := rfl
@[simp] theorem publish_result_seqCount (r : DecodedResult) (s : State) : (publish r s).result.seqCount = s.result.seqCount + 1#32 := rfl
@[simp] theorem publish_wave (r : DecodedResult) (s : State) : (publish r s).wave = s.wave := rfl
@[simp] theorem publish_decoder (r : DecodedResult) (s : State) : (publish r s).decoder = s.decoder := rfl
@[simp] theorem publish_efifo (r : DecodedResult) (s : State) : (publish r s).efifo = s.efifo := rfl
@[simp] theorem publish_tx (r : DecodedResult) (s : State) : (publish r s).tx = s.tx := rfl
@[simp] theorem publish_pins (r : DecodedResult) (s : State) : (publish r s).pins = s.pins := rfl
@[simp] theorem publish_trace (r : DecodedResult) (s : State) : (publish r s).trace = s.trace := rfl
@[simp] theorem publish_nowUs (r : DecodedResult) (s : State) : (publish r s).nowUs = s.nowUs := rfl
@[simp] theorem publish_rdata (r : DecodedResult) (s : State) : (publish r s).rdata = s.rdata := rfl
@[simp] theorem publish_pending (r : DecodedResult) (s : State) : (publish r s).pending = s.pending := rfl

/-! ### resetBlock -/

@[simp] theorem resetBlock_status (s : State) : (resetBlock s).status = State.reset.status := rfl
@[simp] theorem resetBlock_regs (s : State) : (resetBlock s).regs = State.reset.regs := rfl
@[simp] theorem resetBlock_result (s : State) : (resetBlock s).result = State.reset.result := rfl
@[simp] theorem resetBlock_wave (s : State) : (resetBlock s).wave = State.reset.wave := rfl
@[simp] theorem resetBlock_decoder (s : State) : (resetBlock s).decoder = State.reset.decoder := rfl
@[simp] theorem resetBlock_efifo (s : State) : (resetBlock s).efifo = State.reset.efifo := rfl
@[simp] theorem resetBlock_tx (s : State) : (resetBlock s).tx = State.reset.tx := rfl
@[simp] theorem resetBlock_pins (s : State) : (resetBlock s).pins = State.reset.pins := rfl
@[simp] theorem resetBlock_trace (s : State) : (resetBlock s).trace = State.reset.trace := rfl
@[simp] theorem resetBlock_nowUs (s : State) : (resetBlock s).nowUs = s.nowUs := rfl
@[simp] theorem resetBlock_rdata (s : State) : (resetBlock s).rdata = State.reset.rdata := rfl
@[simp] theorem resetBlock_pending (s : State) : (resetBlock s).pending = s.pending := rfl

/-! ### the decoder's updates -/

@[simp] theorem setEntry_changeCount (d : Decoder) (i : Nat) (v : Word) : (d.setEntry i v).changeCount = d.changeCount := rfl
@[simp] theorem setEntry_repeatCount (d : Decoder) (i : Nat) (v : Word) : (d.setEntry i v).repeatCount = d.repeatCount := rfl
@[simp] theorem setEntry_lastTs (d : Decoder) (i : Nat) (v : Word) : (d.setEntry i v).lastTs = d.lastTs := rfl
@[simp] theorem storeDuration_T (dur : Word) (d : Decoder) : (storeDuration dur d).T = (d.setEntry d.changeCount dur).T := rfl
@[simp] theorem storeDuration_changeCount (dur : Word) (d : Decoder) : (storeDuration dur d).changeCount = d.changeCount + 1 := rfl
@[simp] theorem storeDuration_repeatCount (dur : Word) (d : Decoder) : (storeDuration dur d).repeatCount = d.repeatCount := rfl
@[simp] theorem storeDuration_lastTs (dur : Word) (d : Decoder) : (storeDuration dur d).lastTs = d.lastTs := rfl

end Sys2Proof.Machine
end

