-- ==== Sys2Proof/Laws/Buffer.lean ====
section
/-! SUPPORT. Reading and storing the timing buffer: what was stored is read back, every other entry is as before
(44_decoder.md R165). -/

namespace Sys2Proof.Machine

theorem entry_setEntry_same (d : Decoder) (i : Nat) (v : Word) (h : i < 68) : (d.setEntry i v).entry i = v := by
  simp [Decoder.entry, Decoder.setEntry, Vector.getD, h]

theorem entry_setEntry_other (d : Decoder) (i j : Nat) (v : Word) (h : i ≠ j) : (d.setEntry i v).entry j = d.entry j := by
  by_cases hj : j < 68
  · simp [Decoder.entry, Decoder.setEntry, Vector.getD, hj, h]
  · simp [Decoder.entry, Decoder.setEntry, Vector.getD, hj]

@[simp] theorem entry_lastTs (d : Decoder) (ts : Word) (i : Nat) : ({ d with lastTs := ts } : Decoder).entry i = d.entry i :=
  rfl

theorem entry_storeDuration_same (dur : Word) (d : Decoder) (h : d.changeCount < 68) :
    (storeDuration dur d).entry d.changeCount = dur :=
  entry_setEntry_same d d.changeCount dur h

theorem entry_storeDuration_other (dur : Word) (d : Decoder) (j : Nat) (h : d.changeCount ≠ j) :
    (storeDuration dur d).entry j = d.entry j :=
  entry_setEntry_other d d.changeCount j dur h

end Sys2Proof.Machine
end

