-- ==== Sys2Proof/Laws/Ops.lean ====
section
/-! SUPPORT. For each shared operation, once, everything it can do: later proofs cite these instead of unfolding the
operation. -/

namespace Sys2Proof.Machine

/-- A command reports its first failed check and does nothing else, or makes its effects and reports OK. -/
theorem command_cases {α : Type} (check : Except ErrCode α) (effect : α → State → State) (s : State) :
    (∃ e, check = .error e ∧ command check effect s = raise e s) ∨
      (∃ a, check = .ok a ∧ command check effect s = succeed (effect a s)) := by
  cases check with
  | error e => exact .inl ⟨e, rfl, rfl⟩
  | ok a => exact .inr ⟨a, rfl, rfl⟩

/-- ENC_*'s checks pass exactly on a non-zero pulse and a protocol of the table. -/
theorem encCheck_ok_iff (tbl : ProtocolTable) (s : State) (p : Protocol) :
    encCheck tbl s = .ok p ↔ s.regs.pulseUs ≠ 0#16 ∧ selectedProtocol tbl s = some p := by
  unfold encCheck
  split
  · simp_all
  · cases h : selectedProtocol tbl s <;> simp_all

/-- SEND's checks pass exactly on these conditions. -/
theorem sendCheck_ok_iff (tbl : ProtocolTable) (s : State) (p : Protocol) :
    sendCheck tbl s = .ok p ↔
      s.status.busy = false ∧ s.status.mode = .tx ∧ 1 ≤ s.regs.bitWidth.toNat ∧ s.regs.bitWidth.toNat ≤ 32 ∧
        s.regs.pulseUs ≠ 0#16 ∧ selectedProtocol tbl s = some p ∧ s.regs.txCode.toNat < 2 ^ s.regs.bitWidth.toNat := by
  unfold sendCheck
  by_cases hb : s.status.busy = true
  · simp [hb]
  rw [if_neg hb]
  by_cases hm : s.status.mode = .tx
  · rw [if_neg (not_not.mpr hm)]
    by_cases hw : s.regs.bitWidth.toNat = 0 ∨ s.regs.bitWidth.toNat > Config.codeTxW ∨ s.regs.pulseUs = 0#16
    · rw [if_pos hw]
      constructor
      · intro h; cases h
      · rintro ⟨-, -, h1, h2, h3, -, -⟩
        rcases hw with h | h | h
        · omega
        · exact absurd h2 (by unfold Config.codeTxW at h; omega)
        · exact absurd h h3
    · rw [if_neg hw]
      unfold Config.codeTxW at hw
      push Not at hw
      obtain ⟨h1, h2, h3⟩ := hw
      have h0 : 1 ≤ s.regs.bitWidth.toNat := Nat.one_le_iff_ne_zero.mpr h1
      cases hp : selectedProtocol tbl s with
      | none => simp
      | some q =>
        by_cases hc : s.regs.txCode.toNat ≥ 2 ^ s.regs.bitWidth.toNat
        · simp [hc, Nat.not_lt.mpr hc]
        · simp [hc, Nat.lt_of_not_ge hc, hb, hm, h0, h2, h3]
  · simp [hm]

/-- An enable's check passes exactly when the other mode is not active. -/
theorem exclusiveWith_ok_iff (other : Mode) (s : State) :
    exclusiveWith other s = .ok () ↔ s.status.mode ≠ other := by
  unfold exclusiveWith
  split <;> simp_all

/-- A train's start: nothing on the pin for an empty train, else its first segment begins and BUSY is set. -/
theorem startTrain_cases (train : List Segment) (s : State) :
    (train = [] ∧ startTrain train s = { s with tx := { s.tx with cur := none, rest := [] } }) ∨
      (∃ g rest, train = g :: rest ∧
        startTrain train s =
          { beginSegment g rest s with status := { (beginSegment g rest s).status with busy := true } }) := by
  cases train with
  | nil => exact .inl ⟨rfl, rfl⟩
  | cons g rest => exact .inr ⟨g, rest, rfl, rfl⟩

/-- A segment step does nothing, begins the next segment, or ends the train. -/
theorem segmentStep_cases (s : State) :
    segmentStep s = s ∨
      (∃ g next rest, s.status.busy = true ∧ s.tx.cur = some g ∧ segmentOver s g = true ∧ s.tx.rest = next :: rest ∧
        segmentStep s = beginSegment next rest s) ∨
      (∃ g, s.status.busy = true ∧ s.tx.cur = some g ∧ segmentOver s g = true ∧ s.tx.rest = [] ∧
        segmentStep s = endOfTrain s) := by
  unfold segmentStep
  cases hc : s.tx.cur with
  | none => exact .inl rfl
  | some g =>
    by_cases hg : s.status.busy = true ∧ segmentOver s g = true
    · cases hr : s.tx.rest with
      | nil => exact .inr (.inr ⟨g, hg.1, rfl, hg.2, rfl, by simp [hg]⟩)
      | cons next rest => exact .inr (.inl ⟨g, next, rest, hg.1, rfl, hg.2, rfl, by simp [hg]⟩)
    · exact .inl (by simp [hg])

/-- A captured edge is ignored outside RX, lost when the FIFO is full, else queued. -/
theorem captureEdge_cases (ts : Word) (s : State) :
    (s.status.mode ≠ .rx ∧ captureEdge ts s = s) ∨
      (s.status.mode = .rx ∧ s.efifo.length = Config.edgeFifoDepth ∧
        captureEdge ts s = { s with status := { s.status with rxOvf := true } }) ∨
      (s.status.mode = .rx ∧ s.efifo.length ≠ Config.edgeFifoDepth ∧
        captureEdge ts s = { s with efifo := s.efifo ++ [ts] }) := by
  unfold captureEdge
  by_cases hm : s.status.mode = .rx
  · by_cases hf : s.efifo.length = Config.edgeFifoDepth
    · exact .inr (.inl ⟨hm, hf, by simp [hm, hf]⟩)
    · exact .inr (.inr ⟨hm, hf, by simp [hm, hf]⟩)
  · exact .inl ⟨hm, by simp [hm]⟩

/-- Processing does nothing with no event waiting, else it takes the oldest through the decoder and publishes what that
gives, whatever the table. -/
theorem processEdgeUnder_cases (tbl : ProtocolTable) (s : State) :
    (s.efifo = [] ∧ processEdgeUnder tbl s = s) ∨
      (∃ ts rest, s.efifo = ts :: rest ∧
        processEdgeUnder tbl s =
          publishIfAny (decoderStep tbl s.regs.tolPct.toNat ts s.decoder).2
            { s with
              efifo := rest
              decoder := (decoderStep tbl s.regs.tolPct.toNat ts s.decoder).1 }) := by
  unfold processEdgeUnder
  cases h : s.efifo with
  | nil => exact .inl ⟨rfl, rfl⟩
  | cons ts rest => exact .inr ⟨ts, rest, rfl, rfl⟩

/-- The same in the block of this spec. -/
theorem processEdge_cases (s : State) :
    (s.efifo = [] ∧ processEdge s = s) ∨
      (∃ ts rest, s.efifo = ts :: rest ∧
        processEdge s =
          publishIfAny (decoderStep Config.protocols s.regs.tolPct.toNat ts s.decoder).2
            { s with
              efifo := rest
              decoder := (decoderStep Config.protocols s.regs.tolPct.toNat ts s.decoder).1 }) :=
  processEdgeUnder_cases Config.protocols s

/-- Publishing an optional result: nothing, or one publication. -/
theorem publishIfAny_cases (r : Option DecodedResult) (s : State) :
    (r = none ∧ publishIfAny r s = s) ∨ (∃ x, r = some x ∧ publishIfAny r s = publish x s) := by
  cases r with
  | none => exact .inl ⟨rfl, rfl⟩
  | some x => exact .inr ⟨x, rfl, rfl⟩

/-- The sync test: no gap, a gap that does not repeat, a first repeat, or the repeat that attempts a decode. -/
theorem syncTest_cases (tbl : ProtocolTable) (pct : Nat) (ts dur : Word) (d : Decoder) :
    (isGap dur = false ∧ syncTest tbl pct ts dur d = (d, none)) ∨
      (isGap dur = true ∧ isRepeat dur d = false ∧ syncTest tbl pct ts dur d = ({ d with changeCount := 0 }, none)) ∨
      (isGap dur = true ∧ isRepeat dur d = true ∧ d.repeatCount + 1 ≠ 2 ∧
        syncTest tbl pct ts dur d = ({ d with changeCount := 0, repeatCount := d.repeatCount + 1 }, none)) ∨
      (isGap dur = true ∧ isRepeat dur d = true ∧ d.repeatCount + 1 = 2 ∧
        syncTest tbl pct ts dur d =
          ({ d with changeCount := 0, repeatCount := 0 },
            decodeWindow tbl { d with repeatCount := d.repeatCount + 1, changeCount := d.changeCount - 1 } pct
              (d.changeCount - 1) ts)) := by
  unfold syncTest repeatStep Config.repeatsToDecode
  by_cases hg : isGap dur = true
  · by_cases hr : isRepeat dur d = true
    · by_cases h2 : d.repeatCount + 1 = 2
      · exact .inr (.inr (.inr ⟨hg, hr, h2, by simp [hg, hr, h2]⟩))
      · exact .inr (.inr (.inl ⟨hg, hr, h2, by simp [hg, hr, h2]⟩))
    · exact .inr (.inl ⟨hg, by simpa using hr, by simp [hg, hr]⟩)
  · exact .inl ⟨by simpa using hg, by simp [hg]⟩

/-- The overflow test: the window is kept, or both counts are cleared. -/
theorem overflowTest_cases (d : Decoder) :
    (d.changeCount < 68 ∧ overflowTest d = d) ∨
      (68 ≤ d.changeCount ∧ overflowTest d = { d with changeCount := 0, repeatCount := 0 }) := by
  unfold overflowTest Config.bufCap
  by_cases h : d.changeCount ≥ 68
  · exact .inr ⟨h, by simp [h]⟩
  · exact .inl ⟨by omega, by simp [h]⟩

/-- A carrier at the ports runs the instruction it decodes to, or is an illegal command, whatever the instructions mean. -/
theorem presentBy_cases (run : Meanings) (c : Carrier) (s : State) :
    (∃ i, decode s.nowUs c = .ok i ∧ presentBy run c s = run i s) ∨
      (∃ w, decode s.nowUs c = .error (.illegalCommand w) ∧ presentBy run c s = .next (raise .illegalCommand s)) := by
  unfold presentBy
  cases h : decode s.nowUs c with
  | ok i => exact .inl ⟨i, rfl, rfl⟩
  | error e =>
    cases e with
    | illegalCommand w => exact .inr ⟨w, rfl, rfl⟩

/-- The same in the block of this spec. -/
theorem present_cases (c : Carrier) (s : State) :
    (∃ i, decode s.nowUs c = .ok i ∧ present c s = exec i s) ∨
      (∃ w, decode s.nowUs c = .error (.illegalCommand w) ∧ present c s = .next (raise .illegalCommand s)) :=
  presentBy_cases exec c s

/-- Leaving TX when a train runs, when none runs, and in any other mode. -/
theorem disableTx_cases (s : State) :
    (s.status.mode ≠ .tx ∧ disableTx s = s) ∨
      (s.status.mode = .tx ∧ s.status.busy = true ∧
        disableTx s =
          { abortSend s with
            pins := { (abortSend s).pins with out := .low, dir := .input }
            status := { (abortSend s).status with mode := .off } }) ∨
      (s.status.mode = .tx ∧ s.status.busy = false ∧
        disableTx s =
          { s with
            pins := { s.pins with out := .low, dir := .input }
            status := { s.status with mode := .off } }) := by
  unfold disableTx abortIfBusy
  by_cases hm : s.status.mode = .tx
  · cases hb : s.status.busy with
    | true => exact .inr (.inl ⟨hm, rfl, by simp [hm]⟩)
    | false => exact .inr (.inr ⟨hm, rfl, by simp [hm]⟩)
  · exact .inl ⟨hm, by simp [hm]⟩

/-- Clean-up with a train in progress, and without. -/
theorem cleanUp_cases (s : State) :
    (s.status.mode = .tx ∧ s.status.busy = true ∧ cleanUp s = releasePin (allOff (abortSend s))) ∨
      (¬(s.status.mode = .tx ∧ s.status.busy = true) ∧ cleanUp s = releasePin (allOff s)) := by
  unfold cleanUp abortIfBusy
  by_cases hm : s.status.mode = .tx
  · cases hb : s.status.busy with
    | true => exact .inl ⟨hm, rfl, by simp [hm]⟩
    | false => exact .inr ⟨by simp, by simp [hm]⟩
  · exact .inr ⟨by simp [hm], by simp [hm]⟩

/-- Everything taking the next operation can do: wait, take a reset, or perform it at the time it sees. -/
theorem takeNextBy_cases (run : Meanings) (process : State → State) (s : State) :
    (s.pending = [] ∧ takeNextBy run process s = .next s) ∨
      (∃ e rest, s.pending = e :: rest ∧ e.rstN = false ∧
        takeNextBy run process s = .next (resetBlock (sampleTime e.nowUs { s with pending := rest }))) ∨
      (∃ e rest, s.pending = e :: rest ∧ e.rstN = true ∧
        takeNextBy run process s = performBy run process e.op (sampleTime e.nowUs { s with pending := rest })) := by
  unfold takeNextBy
  cases h : s.pending with
  | nil => exact .inl ⟨rfl, rfl⟩
  | cons e rest =>
    cases hr : e.rstN with
    | false => exact .inr (.inl ⟨e, rest, rfl, hr, by simp [takeEventBy, hr]⟩)
    | true => exact .inr (.inr ⟨e, rest, rfl, hr, by simp [takeEventBy, hr]⟩)

/-- Everything a step can do: wait, take a reset, or perform the next operation at the time it sees. -/
theorem step_cases (s : State) :
    (s.pending = [] ∧ step s = .next s) ∨
      (∃ e rest, s.pending = e :: rest ∧ e.rstN = false ∧
        step s = .next (resetBlock (sampleTime e.nowUs { s with pending := rest }))) ∨
      (∃ e rest, s.pending = e :: rest ∧ e.rstN = true ∧
        step s = perform e.op (sampleTime e.nowUs { s with pending := rest })) :=
  takeNextBy_cases exec processEdge s

end Sys2Proof.Machine
end

