-- ==== Sys2Proof/Laws/PerInstr.lean ====
section
/-! SUPPORT. Families of statements made once per instruction, about the instruction as syntax. -/

namespace Sys2Proof.Laws

/-- Whatever the time input reads, the encoder presents the instruction with a well-formed carrier (30_encoding.md R75,
R77, R83, R84). -/
def Presentable.Statement (i : Instr) : Prop := ∀ now : Word, (encode now i).2.wf = true

theorem Presentable.nop : Presentable.Statement .nop := fun _ => rfl
theorem Presentable.txEnable : Presentable.Statement .txEnable := fun _ => rfl
theorem Presentable.txDisable : Presentable.Statement .txDisable := fun _ => rfl
theorem Presentable.rxEnable : Presentable.Statement .rxEnable := fun _ => rfl
theorem Presentable.rxDisable : Presentable.Statement .rxDisable := fun _ => rfl
theorem Presentable.send : Presentable.Statement .send := fun _ => rfl
theorem Presentable.cleanup : Presentable.Statement .cleanup := fun _ => rfl
theorem Presentable.encLogic0 : Presentable.Statement .encLogic0 := fun _ => rfl
theorem Presentable.encLogic1 : Presentable.Statement .encLogic1 := fun _ => rfl
theorem Presentable.encSync : Presentable.Statement .encSync := fun _ => rfl

theorem Presentable.regRead (slot : Slot) : Presentable.Statement (.regRead slot) := fun _ => by
  cases slot <;> rfl

theorem Presentable.regWrite (slot : Slot) (data : Word) : Presentable.Statement (.regWrite slot data) := fun _ => by
  cases slot <;> rfl

theorem Presentable.edge (ts : Word) : Presentable.Statement (.edge ts) := fun _ => rfl

end Sys2Proof.Laws
end

