-- ==== Sys2Proof/Tests/Slice0.lean ====
section
/-! SUPPORT. Small tests: the decoding of words written out from 30_encoding.md, what well-formedness refuses, and one or two
steps per instruction with the values of 95_test_vectors.md. -/

namespace Sys2Proof.Tests

open Sys2Proof Sys2Proof.Machine

/-! ### Small states -/

/-- Whether an outcome is a next state with a property. -/
def after (o : Host.Outcome State Fault Refusal) (p : State → Bool) : Bool :=
  match o with
  | .next t => p t
  | .fault _ => false
  | .refused _ => false

/-- Mode TX with the arguments of 95_test_vectors.md X1: code 5, W = 4, protocol 1, 350 µs, R = 1. -/
def txIdle : State :=
  { State.reset with
    status := { State.reset.status with mode := .tx }
    regs := { State.reset.regs with txCode := 5#32, txCfg := 0x00010104#32 }
    pins := { State.reset.pins with dir := .output } }

/-- The same with the train of 95_test_vectors.md T2 at its third segment: code 1, W = 1, protocol 2, 650 µs. -/
def txBusy : State :=
  { txIdle with
    status := { txIdle.status with busy := true }
    tx := { code := 1#32, width := 1#6, proto := 2#4, pulse := 650#16, reps := 1#8, cur := some ⟨.high, 650⟩,
            rest := [⟨.low, 6500⟩], segStart := 1000#32 }
    pins := { txIdle.pins with out := .high } }

/-- The same at its last segment. -/
def txLast : State :=
  { txBusy with
    tx := { txBusy.tx with cur := some ⟨.low, 6500⟩, rest := [] }
    pins := { txBusy.pins with out := .low } }

/-- Mode RX. -/
def rxIdle : State :=
  { State.reset with
    status := { State.reset.status with mode := .rx }
    pins := { State.reset.pins with edgeEn := true } }

/-- A timing buffer that begins with the given durations. -/
def buffer (durs : List Nat) : Vector Word 68 :=
  durs.zipIdx.foldl (fun T e => T.setIfInBounds e.2 (BitVec.ofNat 32 e.1)) (Vector.replicate 68 0#32)

/-- A decoder at `last_ts = 0` with a window and two counts. -/
def window (durs : List Nat) (changes repeats : Nat) : Decoder :=
  { T := buffer durs, changeCount := changes, repeatCount := repeats, lastTs := 0#32 }

/-- A receiver that holds the window of 95_test_vectors.md A10, one confirmed gap, and a gap that repeats it waiting. -/
def rxAboutToPublish : State :=
  { rxIdle with decoder := window [10850, 350, 1050, 350, 1050, 1050, 350, 350] 8 1, efifo := [10850#32] }

/-- A state with one operation to come. -/
def withNext (s : State) (now : Word) (op : Op) : State := { s with pending := [eventAt now op] }

/-! ### Decoding (the words are written out from 30_encoding.md R77, R83, R84) -/

theorem test_decode_nop : decode 0#32 (.cmd 0b00000000000000000000000000000000#32) = .ok .nop := by decide
theorem test_decode_txEnable : decode 0#32 (.cmd 0b00000000000000000000000000000001#32) = .ok .txEnable := by decide
theorem test_decode_txDisable : decode 0#32 (.cmd 0b00000000000000000000000000000010#32) = .ok .txDisable := by decide
theorem test_decode_rxEnable : decode 0#32 (.cmd 0b00000000000000000000000000000011#32) = .ok .rxEnable := by decide
theorem test_decode_rxDisable : decode 0#32 (.cmd 0b00000000000000000000000000000100#32) = .ok .rxDisable := by decide
theorem test_decode_send : decode 0#32 (.cmd 0b00000000000000000000000000000101#32) = .ok .send := by decide
theorem test_decode_cleanup : decode 0#32 (.cmd 0b00000000000000000000000000000110#32) = .ok .cleanup := by decide
theorem test_decode_encLogic0 : decode 0#32 (.cmd 0b00000000000000000000000000001000#32) = .ok .encLogic0 := by decide
theorem test_decode_encLogic1 : decode 0#32 (.cmd 0b00000000000000000000000000001001#32) = .ok .encLogic1 := by decide
theorem test_decode_encSync : decode 0#32 (.cmd 0b00000000000000000000000000001010#32) = .ok .encSync := by decide

/-- `{DIR, ADDR} = {0, 0011}` reads offset 0x0C. -/
theorem test_decode_regRead : decode 0#32 (.bus 0b00011#5 0#32) = .ok (.regRead .txCfg) := by decide

/-- `{DIR, ADDR} = {1, 0100}` writes offset 0x10. -/
theorem test_decode_regWrite : decode 0#32 (.bus 0b10100#5 0x15E#32) = .ok (.regWrite .txPulse 0x15E#32) := by decide

/-- A strobe while `now_us` is 1000. -/
theorem test_decode_edge : decode 1000#32 .edge = .ok (.edge 1000#32) := by decide

/-- 95_test_vectors.md P3 steps 12 and 13: a reserved opcode, a reserved bit; and the first opcode past the map. -/
theorem test_decode_illegal :
    decode 0#32 (.cmd 0x00000007#32) = .error (.illegalCommand 0x00000007#32) ∧
      decode 0#32 (.cmd 0x00000101#32) = .error (.illegalCommand 0x00000101#32) ∧
      decode 0#32 (.cmd 0x0000000B#32) = .error (.illegalCommand 0x0000000B#32) := by decide

/-- The bits as spec/opcode_table.json numbers them: ADDR in bits 3 to 0, DIR in bit 4, and no bits for EDGE. -/
theorem test_table_words :
    decodeTableWord 32 0x0000000A = some .encSync ∧ decodeTableWord 32 0x00000007 = none ∧
      decodeTableWord 8 0b01011 = some (.regRead .rxSeq) ∧ decodeTableWord 8 0b10101 = some (.regWrite .rxTol 0#32) ∧
      decodeTableWord 0 0 = some (.edge 0#32) := by decide

/-- The instruction placed next is the one the first step after reset runs. -/
theorem test_first_instruction :
    step (State.reset.withFetchWord 32 1) = exec .txEnable State.reset ∧
      step (State.reset.withFetchWord 8 0b01000) = exec (.regRead .rxMeta) State.reset := ⟨rfl, rfl⟩

/-! ### Well-formedness -/

/-- A BUS read that drives write data is ill-formed; a write with the same data, and a read without, are well-formed. -/
theorem test_wf_carrier :
    Carrier.wf (.bus 0b00010#5 1#32) = false ∧ Carrier.wf (.bus 0b10010#5 1#32) = true ∧
      Carrier.wf (.bus 0b00010#5 0#32) = true := by decide

/-- A table with identifier 0 or 16, with units 0 or 256, out of order, or without a default entry is ill-formed. -/
theorem test_wf_tables_refused :
    ∀ tbl ∈ ([[(0, ⟨5, 5⟩), (1, ⟨31, 3⟩), (2, ⟨10, 2⟩)], [(1, ⟨31, 3⟩), (2, ⟨10, 2⟩), (16, ⟨5, 5⟩)],
      [(1, ⟨31, 3⟩), (2, ⟨10, 2⟩), (3, ⟨0, 5⟩)], [(1, ⟨31, 3⟩), (2, ⟨10, 2⟩), (3, ⟨5, 256⟩)],
      [(2, ⟨10, 2⟩), (1, ⟨31, 3⟩)], [(1, ⟨31, 3⟩)]] : List ProtocolTable), ProtocolTable.wf tbl = false := by decide

/-- The default table and one more entry at the ends of the ranges. -/
theorem test_wf_tables_accepted :
    ProtocolTable.wf Config.protocols = true ∧
      ProtocolTable.wf [(1, ⟨31, 3⟩), (2, ⟨10, 2⟩), (15, ⟨255, 1⟩)] = true := by decide

/-! ### One step per instruction (95_test_vectors.md) -/

/-- M16. -/
theorem test_nop :
    after (exec .nop { State.reset with status := { State.reset.status with err := .modeConflict } })
      (fun t => t.status.word = 0#32) = true := by decide

/-- M1. -/
theorem test_txEnable :
    after (exec .txEnable State.reset)
      (fun t => t.status.word = 0x01#32 ∧ t.pins = { dir := .output, out := .low, edgeEn := false }) = true := by decide

/-- M4. -/
theorem test_txEnable_conflict :
    after (exec .txEnable rxIdle) (fun t => t.status.word = 0x12#32 ∧ t.pins.edgeEn) = true := by decide

/-- M12. -/
theorem test_txDisable_aborts :
    after (exec .txDisable txBusy)
      (fun t => t.status.word = 0x08#32 ∧ t.trace = [.abort] ∧ t.pins.dir = .input ∧ t.pins.out = .low) = true := by decide

/-- M8. -/
theorem test_txDisable_in_rx : after (exec .txDisable rxIdle) (fun t => t.status.word = 0x02#32) = true := by decide

/-- M7. -/
theorem test_rxEnable :
    after (exec .rxEnable { rxIdle with status := { rxIdle.status with rxOvf := true } })
      (fun t => t.status.word = 0x02#32) = true := by decide

/-- M6. -/
theorem test_rxEnable_conflict :
    after (exec .rxEnable txBusy) (fun t => t.status.word = 0x15#32 ∧ t.tx = txBusy.tx) = true := by decide

/-- M17. -/
theorem test_rxDisable :
    after (exec .rxDisable { rxIdle with decoder := window [10850] 12 1, efifo := [5#32] })
      (fun t => t.status.word = 0#32 ∧ t.decoder.changeCount = 12 ∧ t.efifo = [] ∧ t.pins.edgeEn = false) = true := by
  decide

/-- M9. -/
theorem test_rxDisable_in_tx : after (exec .rxDisable txBusy) (fun t => t.status.word = 0x05#32) = true := by decide

/-- X1: the first segment of T1, and nine to come. -/
theorem test_send :
    after (exec .send txIdle)
      (fun t => t.status.word = 0x05#32 ∧ t.trace = [.seg .high 350] ∧ t.pins.out = .high ∧ t.tx.rest.length = 9) =
      true := by decide

/-- X9: the protocol is checked before the width of the code. -/
theorem test_send_order :
    after (exec .send { txIdle with regs := { txIdle.regs with txCode := 16#32, txCfg := 0x00010704#32 } })
      (fun t => t.status.word = 0x31#32 ∧ t.trace = []) = true := by decide

/-- M13. -/
theorem test_cleanup_aborts :
    after (exec .cleanup txBusy) (fun t => t.status.word = 0x08#32 ∧ t.trace = [.abort, .release]) = true := by decide

/-- M14. -/
theorem test_cleanup_in_rx :
    after (exec .cleanup { rxIdle with efifo := [1#32] })
      (fun t => t.status.word = 0#32 ∧ t.efifo = [] ∧ t.pins.edgeEn = false ∧ t.trace = [.release]) = true := by decide

/-- W1. -/
theorem test_encLogic0 :
    after (exec .encLogic0 State.reset) (fun t => t.wave = { high := 350#32, low := 1050#32 }) = true := by decide

/-- W8: the pulse is checked first. -/
theorem test_encLogic0_order :
    after (exec .encLogic0 { State.reset with regs := { State.reset.regs with txCfg := 0#32, txPulse := 0#32 } })
      (fun t => t.status.word = 0x50#32 ∧ t.wave = State.reset.wave) = true := by decide

/-- W2. -/
theorem test_encLogic1 :
    after (exec .encLogic1 { State.reset with regs := { State.reset.regs with txCfg := 0x200#32, txPulse := 650#32 } })
      (fun t => t.wave = { high := 1300#32, low := 650#32 }) = true := by decide

/-- W3. -/
theorem test_encSync :
    after (exec .encSync { State.reset with regs := { State.reset.regs with txPulse := 65535#32 } })
      (fun t => t.wave = { high := 65535#32, low := 2031585#32 }) = true := by decide

/-- W6. -/
theorem test_encSync_unsupported :
    after (exec .encSync { State.reset with regs := { State.reset.regs with txCfg := 0x300#32 } })
      (fun t => t.status.word = 0x30#32 ∧ t.wave = State.reset.wave) = true := by decide

/-- H1. -/
theorem test_regRead : after (exec (.regRead .txCfg) State.reset) (fun t => t.rdata = 0x000A0118#32) = true := by decide

/-- H2. -/
theorem test_regWrite :
    after (exec (.regWrite .txCfg 0xFFFFFFFF#32) State.reset) (fun t => t.regs.txCfg = 0x00FF0F3F#32) = true := by decide

/-- P3 step 12. -/
theorem test_regWrite_illegal :
    after (exec (.regWrite .cmd 0x7#32) txIdle) (fun t => t.status.word = 0x71#32) = true := by decide

/-- 44_decoder.md R154's example. -/
theorem test_edge : after (exec (.edge 1000#32) rxIdle) (fun t => t.efifo = [1000#32]) = true := by decide

/-- V1. -/
theorem test_edge_off : after (exec (.edge 1000#32) State.reset) (fun t => t = State.reset) = true := by decide

/-! ### A block built with another table (00_scope.md R8): protocol 3 = (20, 4) -/

/-- The default table and one more entry. -/
def threeProtocols : ProtocolTable := [(1, ⟨31, 3⟩), (2, ⟨10, 2⟩), (3, ⟨20, 4⟩)]

/-- 41_encoder.md R112: the sync of protocol 3 at 350 µs is (350, 7000); the default block refuses it (W6). -/
theorem test_other_table_encSync :
    after (execUnder threeProtocols .encSync { State.reset with regs := { State.reset.regs with txCfg := 0x300#32 } })
      (fun t => t.status.word = 0#32 ∧ t.wave = { high := 350#32, low := 7000#32 }) = true := by decide

/-- 42_transmitter.md R128: code 5 of 4 bits begins with the short HIGH and the long LOW of protocol 3. -/
theorem test_other_table_send :
    after (execUnder threeProtocols .send { txIdle with regs := { txIdle.regs with txCfg := 0x00010304#32 } })
      (fun t => t.status.word = 0x05#32 ∧ t.trace = [.seg .high 350] ∧ t.tx.rest.head? = some ⟨.low, 1400⟩) = true := by
  decide

/-! ### The internal operations and the decoder -/

/-- P4: a step of T2's train to its last segment. -/
theorem test_segStep :
    (segmentStep { txBusy with nowUs := 1650#32 }).trace = [.seg .low 6500] ∧
      segmentStep { txBusy with nowUs := 1649#32 } = { txBusy with nowUs := 1649#32 } := by decide +kernel

/-- A10 through the whole step: the result registers and the restarted window. -/
theorem test_process_publishes :
    slotValue (processEdge rxAboutToPublish) .rxCodeLo = 1#32 ∧
      slotValue (processEdge rxAboutToPublish) .rxMeta = 0x103#32 ∧
      slotValue (processEdge rxAboutToPublish) .rxUnit = 350#32 ∧
      slotValue (processEdge rxAboutToPublish) .rxTime = 10850#32 ∧
      slotValue (processEdge rxAboutToPublish) .status = 0x202#32 := by decide +kernel

/-- A11: an even window reads the entry that the decrement took out. -/
theorem test_attempt_even :
    decodeWindow Config.protocols (window [10850, 1050, 350, 1050, 350, 350, 1050, 1050, 350] 8 1) 20 8 7#32 =
      some ⟨13, 4, 1, 7#32, 350⟩ := by decide +kernel

/-- A13: protocol 1 fails, and both windows of protocol 2 hold 975. -/
theorem test_attempt_overlap :
    decodeWindow Config.protocols (window [6500, 975, 975, 1950, 0, 975, 975, 650] 7 1) 100 7 7#32 =
      some ⟨2, 3, 2, 7#32, 650⟩ := by decide +kernel

/-- A3's quirk on a short window: bits 1, INVALID, 1, 0 give code 2 of four pairs. -/
theorem test_attempt_quirk :
    (decodeWindow Config.protocols (window [10850, 1050, 350, 700, 700, 1050, 350, 350, 1050] 8 1) 20 8 7#32).map
      (fun r => (r.code, r.bitLength)) = some (2, 4) := by decide +kernel

/-- S13: the duration wraps. -/
theorem test_duration_wraps :
    ((decoderStep Config.protocols 20 255#32 { window [1, 2, 3] 3 0 with lastTs := 4294967040#32 }).1.entry 3) = 511#32 :=
  by decide +kernel

end Sys2Proof.Tests
end

