-- ==== Sys2Proof/Tests/Witnesses.lean ====
section
/-! SUPPORT. For each statement with hypotheses, concrete values that meet them, clause by clause at the boundaries. -/

namespace Sys2Proof.Tests

open Sys2Proof Sys2Proof.Machine

theorem witness_EncodingADecodedCarrierGivesItBack :
    Carrier.wf (.bus 0b11111#5 7#32) = true ∧ decode 0#32 (.bus 0b11111#5 7#32) = .ok (.regWrite .unmapped3C 7#32) ∧
      Carrier.wf (.cmd 0xA#32) = true ∧ decode 0#32 (.cmd 0xA#32) = .ok .encSync := by decide

/-- A reserved bit (the lowest), the reserved opcode 0x07, the first and the last of the reserved range. -/
theorem witness_ExactlyTenWordsAreCommands :
    (0x100#32).extractLsb' 8 24 ≠ 0#24 ∧ (0x7#32).extractLsb' 0 8 = 0x07#8 ∧
      0x0B#8 ≤ (0xB#32).extractLsb' 0 8 ∧ 0x0B#8 ≤ (0xFF#32).extractLsb' 0 8 ∧
      decode 0#32 (.cmd 0xB#32) = .error (.illegalCommand 0xB#32) := by decide

theorem witness_AWriteToCmdRunsItsCommand : decode 0#32 (.cmd 0x5#32) = .ok .send := by decide

theorem witness_AStepRunsTheDecodedInstruction :
    (withNext rxIdle 9#32 (.port .edge)).pending = eventAt 9#32 (.port .edge) :: [] ∧
      (eventAt 9#32 (.port .edge)).rstN = true ∧ (eventAt 9#32 (.port .edge)).op = .port .edge ∧
      decode (eventAt 9#32 (.port .edge)).nowUs .edge = .ok (.edge 9#32) := by decide

theorem witness_AStepTakesTheOtherOperations :
    (withNext rxAboutToPublish 9#32 .process).pending = eventAt 9#32 .process :: [] ∧
      (withNext txBusy 1650#32 .segStep).pending = eventAt 1650#32 .segStep :: [] ∧
      (withNext txIdle 9#32 (.port (.cmd 0x7#32))).pending = eventAt 9#32 (.port (.cmd 0x7#32)) :: [] ∧
      decode 9#32 (.cmd 0x7#32) = .error (.illegalCommand 0x7#32) ∧ State.reset.pending = [] := by decide

theorem witness_ResetIgnoresStrobesAndClears :
    ({ txBusy with pending := [{ rstN := false, nowUs := 9#32, op := .port .edge }] } : State).pending =
        { rstN := false, nowUs := 9#32, op := .port .edge } :: [] ∧
      ({ rstN := false, nowUs := 9#32, op := .port .edge } : Event).rstN = false := by decide

theorem witness_RegisterWordsAreTheirFields :
    State.reset.regs.txCfg &&& 0xFF00F0C0#32 = 0#32 ∧ State.reset.regs.txPulse &&& 0xFFFF0000#32 = 0#32 ∧
      State.reset.regs.rxTol &&& 0xFFFFFF00#32 = 0#32 := by decide

theorem witness_TxEnableEntersTxFromOff :
    rxIdle.status.mode = .rx ∧ State.reset.status.mode = .off ∧ txIdle.status.mode = .tx := by decide

theorem witness_TxDisableLeavesTxAndAborts :
    (txBusy.status.mode = .tx ∧ txBusy.status.busy = true) ∧ (txIdle.status.mode = .tx ∧ txIdle.status.busy = false) ∧
      rxIdle.status.mode ≠ .tx := by decide

theorem witness_RxEnableEntersRxFromOffAndClearsOverflow :
    txBusy.status.mode = .tx ∧ State.reset.status.mode = .off ∧ rxIdle.status.mode = .rx := by decide

theorem witness_RxDisableLeavesRxAndDropsWaitingEdges : rxIdle.status.mode = .rx ∧ txBusy.status.mode ≠ .rx := by decide

theorem witness_CleanupLeavesAnyModeAndReleases :
    (txBusy.status.mode = .tx ∧ txBusy.status.busy = true) ∧
      ¬(rxIdle.status.mode = .tx ∧ rxIdle.status.busy = true) := by decide

theorem witness_ModesAreExclusive :
    rxIdle.status.mode = .rx ∧ txIdle.status.mode = .tx ∧ (∃ t, exec .rxEnable State.reset = .next t) ∧
      ∃ t, exec (.regWrite .cmd 0x4#32) rxIdle = .next t ∧ t.status.mode ≠ rxIdle.status.mode :=
  ⟨rfl, rfl, ⟨_, rfl⟩, _, rfl, by decide⟩

theorem witness_ErrorsArePrecise :
    ∃ t, exec (.regWrite .cmd 0x3#32) txIdle = .next t ∧ t.status.err ≠ .ok := ⟨_, rfl, by decide⟩

theorem witness_ErrPersistsUntilTheNextCommand :
    (∃ t, exec (.regRead .status) txIdle = .next t) ∧ Slot.txCode ≠ .cmd ∧
      (∃ t, exec (.regWrite .txCode 1#32) txIdle = .next t) ∧ ∃ t, exec (.edge 1#32) txIdle = .next t :=
  ⟨⟨_, rfl⟩, by decide, ⟨_, rfl⟩, _, rfl⟩

/-- RX_OVF and TX_ABORT each cleared by its own command, and kept RX_VALID. -/
theorem witness_StickyFlagsStayUntilTheirOwnCommand :
    (∃ t, exec .rxEnable { rxIdle with status := { rxIdle.status with rxOvf := true } } = .next t ∧
      t.status.rxOvf = false) ∧
    (∃ t, exec .send { txIdle with status := { txIdle.status with txAbort := true } } = .next t ∧
      t.status.txAbort = false) ∧
    ({ rxIdle.status with rxValid := true } : Status).rxValid = true := ⟨⟨_, rfl, rfl⟩, ⟨_, rfl, rfl⟩, rfl⟩

theorem witness_LookupFindsExactlyTheEntries :
    ProtocolTable.wf [(1, ⟨31, 3⟩), (2, ⟨10, 2⟩), (15, ⟨255, 255⟩)] = true ∧ (0 : Nat) ≠ 1 ∧ (3 : Nat) ≠ 2 := by decide

/-- At the largest units and both ends of the pulse length. -/
theorem witness_WaveformDurationsFit :
    ProtocolTable.wf [(1, ⟨31, 3⟩), (2, ⟨10, 2⟩), (15, ⟨255, 255⟩)] = true ∧
      lookup [(1, ⟨31, 3⟩), (2, ⟨10, 2⟩), (15, ⟨255, 255⟩)] 15 = some ⟨255, 255⟩ ∧ 1 ≤ 65535 ∧ 65535 ≤ 65535 := by
  decide

/-- Pulse 0; pulse 1 with the protocols 3 and 15; pulse 350 with protocol 1, and protocol 2. -/
theorem witness_EncodeCommandsWriteTheirWaveforms :
    Instr.encSync ∈ [Instr.encLogic0, .encLogic1, .encSync] ∧
      ({ State.reset.regs with txPulse := 0#32 } : HostRegs).pulseUs = 0#16 ∧
      ({ State.reset.regs with txPulse := 1#32 } : HostRegs).pulseUs ≠ 0#16 ∧
      lookup Config.protocols ({ State.reset.regs with txCfg := 0x300#32 } : HostRegs).protocol.toNat = none ∧
      lookup Config.protocols ({ State.reset.regs with txCfg := 0xF00#32 } : HostRegs).protocol.toNat = none ∧
      lookup Config.protocols State.reset.regs.protocol.toNat = some ⟨31, 3⟩ ∧
      lookup Config.protocols ({ State.reset.regs with txCfg := 0x200#32 } : HostRegs).protocol.toNat = some ⟨10, 2⟩ := by
  decide

/-- Registers of a SEND with a code, a width, a protocol and a pulse length. -/
def sendRegs (code : Word) (cfg pulse : Word) : State :=
  { txIdle with regs := { txIdle.regs with txCode := code, txCfg := cfg, txPulse := pulse } }

/-- Clause by clause: busy; mode RX; widths 0 and 33 and pulse 0; protocol 3; code 16 of 4 bits, 2 of 1 bit. -/
theorem witness_SendReportsItsFirstFailingCheck :
    txBusy.status.busy = true ∧ (rxIdle.status.busy = false ∧ rxIdle.status.mode ≠ .tx) ∧
      (txIdle.status.busy = false ∧ txIdle.status.mode = .tx) ∧
      (sendRegs 5#32 0x00010100#32 350#32).regs.bitWidth.toNat = 0 ∧
      33 ≤ (sendRegs 5#32 0x00010121#32 350#32).regs.bitWidth.toNat ∧
      (sendRegs 5#32 0x00010108#32 0#32).regs.pulseUs = 0#16 ∧
      (1 ≤ (sendRegs 16#32 0x00010304#32 350#32).regs.bitWidth.toNat ∧
        (sendRegs 16#32 0x00010304#32 350#32).regs.bitWidth.toNat ≤ 32 ∧
        (sendRegs 16#32 0x00010304#32 350#32).regs.pulseUs ≠ 0#16 ∧
        lookup Config.protocols (sendRegs 16#32 0x00010304#32 350#32).regs.protocol.toNat = none) ∧
      (lookup Config.protocols (sendRegs 16#32 0x00010104#32 350#32).regs.protocol.toNat = some ⟨31, 3⟩ ∧
        2 ^ (sendRegs 16#32 0x00010104#32 350#32).regs.bitWidth.toNat ≤
          (sendRegs 16#32 0x00010104#32 350#32).regs.txCode.toNat) ∧
      1 ≤ (sendRegs 2#32 0x00010101#32 1#32).regs.bitWidth.toNat ∧
        2 ^ (sendRegs 2#32 0x00010101#32 1#32).regs.bitWidth.toNat ≤
          (sendRegs 2#32 0x00010101#32 1#32).regs.txCode.toNat := by decide

/-- The largest code of 32 bits with 255 repetitions, and the smallest of 1 bit with one. -/
theorem witness_AcceptedSendStartsItsTrain :
    txIdle.status.busy = false ∧ txIdle.status.mode = .tx ∧
      ((sendRegs 0xFFFFFFFF#32 0x00FF0120#32 65535#32).regs.bitWidth.toNat = 32 ∧
        (sendRegs 0xFFFFFFFF#32 0x00FF0120#32 65535#32).regs.pulseUs ≠ 0#16 ∧
        lookup Config.protocols (sendRegs 0xFFFFFFFF#32 0x00FF0120#32 65535#32).regs.protocol.toNat = some ⟨31, 3⟩ ∧
        (sendRegs 0xFFFFFFFF#32 0x00FF0120#32 65535#32).regs.txCode.toNat < 2 ^ 32 ∧
        (sendRegs 0xFFFFFFFF#32 0x00FF0120#32 65535#32).regs.reps ≠ 0#8) ∧
      (sendRegs 0#32 0x00010201#32 1#32).regs.bitWidth.toNat = 1 ∧
        (sendRegs 0#32 0x00010201#32 1#32).regs.pulseUs ≠ 0#16 ∧
        lookup Config.protocols (sendRegs 0#32 0x00010201#32 1#32).regs.protocol.toNat = some ⟨10, 2⟩ ∧
        (sendRegs 0#32 0x00010201#32 1#32).regs.txCode.toNat < 2 ^ 1 ∧
        (sendRegs 0#32 0x00010201#32 1#32).regs.reps ≠ 0#8 := by decide

/-- X14. -/
theorem witness_SendOfZeroRepetitionsSendsNothing :
    txIdle.status.busy = false ∧ txIdle.status.mode = .tx ∧
      (sendRegs 0#32 0x00000108#32 350#32).regs.bitWidth.toNat = 8 ∧
      (sendRegs 0#32 0x00000108#32 350#32).regs.pulseUs ≠ 0#16 ∧
      lookup Config.protocols (sendRegs 0#32 0x00000108#32 350#32).regs.protocol.toNat = some ⟨31, 3⟩ ∧
      (sendRegs 0#32 0x00000108#32 350#32).regs.txCode.toNat < 2 ^ 8 ∧
      (sendRegs 0#32 0x00000108#32 350#32).regs.reps = 0#8 := by decide

/-- The first and the last bit of a 32-bit code. -/
theorem witness_BinaryCodeIsMostSignificantBitFirst : 0 < 32 ∧ 31 < 32 ∧ 4294967295 < 2 ^ 32 := by decide

/-- The first and the last repetition of 255, the first and the last bit of 32. -/
theorem witness_PulseTrainIsItsRepetitions : 0 < 255 ∧ 254 < 255 ∧ 0 < 32 ∧ 31 < 32 := by decide

/-- One µs before a segment is over, exactly then, and at the last segment. -/
theorem witness_SegmentStepDrivesTheTrain :
    txBusy.status.busy = true ∧ txBusy.tx.cur = some ⟨.high, 650⟩ ∧
      ((1649#32 : Word) - txBusy.tx.segStart).toNat < 650 ∧
      (650 ≤ ((1650#32 : Word) - txBusy.tx.segStart).toNat ∧ txBusy.tx.rest = ⟨.low, 6500⟩ :: []) ∧
      txLast.status.busy = true ∧ txLast.tx.cur = some ⟨.low, 6500⟩ ∧ 6500 ≤ ((7500#32 : Word) - txLast.tx.segStart).toNat ∧
      txLast.tx.rest = [] := by decide

theorem witness_ATrainLeftAloneIsSentWhole :
    txIdle.status.busy = false ∧ txIdle.status.mode = .tx ∧ 1 ≤ txIdle.regs.bitWidth.toNat ∧
      txIdle.regs.bitWidth.toNat ≤ 32 ∧ txIdle.regs.pulseUs ≠ 0#16 ∧
      lookup Config.protocols txIdle.regs.protocol.toNat = some ⟨31, 3⟩ ∧
      txIdle.regs.txCode.toNat < 2 ^ txIdle.regs.bitWidth.toNat ∧ txIdle.regs.reps ≠ 0#8 ∧
      ({ txIdle with
          pending := eventAt 7#32 (.port (.cmd 0x5#32)) :: dueSteps 7#32 (trainOf ⟨31, 3⟩ txIdle.regs) } : State).pending =
        eventAt 7#32 (.port (.cmd 0x5#32)) :: dueSteps 7#32 (trainOf ⟨31, 3⟩ txIdle.regs) :=
  ⟨rfl, rfl, by decide, by decide, by decide, by decide, by decide, by decide, rfl⟩

theorem witness_OnlySendStartsATrain :
    rxIdle.status.busy = false ∧ Instr.cleanup ≠ .send ∧ Instr.cleanup ≠ .regWrite .cmd 0x5#32 ∧
      ∃ t, exec .cleanup rxIdle = .next t := ⟨rfl, by decide, by decide, _, rfl⟩

theorem witness_TheTraceOnlyGrows :
    (withNext txBusy 1650#32 .segStep).pending = eventAt 1650#32 .segStep :: [] ∧
      (eventAt 1650#32 .segStep).rstN = true ∧ ∃ t, step (withNext txBusy 1650#32 .segStep) = .next t :=
  ⟨rfl, rfl, _, rfl⟩

/-- A12: a first entry one below the sync units of protocol 1. -/
theorem witness_DegenerateComparatorInputs : ((window [30] 7 1).entry 0).toNat < (⟨31, 3⟩ : Protocol).syncUnits := by
  decide +kernel

/-- One protocol unit pair at the least `pu` and at a `pu` of the table; a duration inside both windows (K17). -/
theorem witness_OverlapOfTheTwoWindows :
    1 ≤ 1 ∧ 1 ≤ 2 ∧ pulseMatch 975 1 650 100 = true ∧ pulseMatch 975 2 650 100 = true ∧ 2 ≤ 2 ∧ 1 ≤ 1 := by decide

/-- Outside RX; in RX with a FIFO that is full; in RX with one that is empty. -/
theorem witness_EdgeCaptureQueuesDropsOrIgnores :
    txIdle.status.mode ≠ .rx ∧ rxIdle.status.mode = .rx ∧
      ({ rxIdle with efifo := List.replicate Config.edgeFifoDepth 1#32 } : State).efifo.length = Config.edgeFifoDepth ∧
      rxIdle.efifo.length ≠ Config.edgeFifoDepth :=
  ⟨by decide, rfl, List.length_replicate, fun h => nomatch h⟩

/-- An event that publishes, and one that does not. -/
theorem witness_ProcessingTakesTheOldestEdge :
    rxAboutToPublish.efifo = 10850#32 :: [] ∧
      (decoderStep Config.protocols rxAboutToPublish.regs.tolPct.toNat 10850#32 rxAboutToPublish.decoder).2 =
        some ⟨1, 3, 1, 10850#32, 350⟩ ∧
      (decoderStep Config.protocols rxIdle.regs.tolPct.toNat 10850#32 rxIdle.decoder).2 = none := by decide +kernel

/-- The five cases at their boundaries: 5000 and 5001 µs, 67 and 68 changes, 200 and 201 µs, repeat counts 0 and 1. -/
theorem witness_DecoderStepByCases :
    ((5000#32 : Word) - (window [] 67 0).lastTs).toNat ≤ 5000 ∧ (window [] 67 0).changeCount < 68 ∧
      68 ≤ (window [] 68 1).changeCount ∧
      (5000 < ((5001#32 : Word) - (window [] 0 0).lastTs).toNat ∧ ¬0 < (window [] 0 0).changeCount) ∧
      (5000 < ((11051#32 : Word) - (window [10850] 1 1).lastTs).toNat ∧
        ¬|(((11051#32 : Word) - (window [10850] 1 1).lastTs).toNat : ℤ) - (((window [10850] 1 1).entry 0).toNat : ℤ)| ≤
          200) ∧
      (0 < (window [10850] 1 1).changeCount ∧
        |(((11050#32 : Word) - (window [10850] 1 1).lastTs).toNat : ℤ) - (((window [10850] 1 1).entry 0).toNat : ℤ)| ≤
          200) ∧
      |(((10650#32 : Word) - (window [10850] 1 0).lastTs).toNat : ℤ) - (((window [10850] 1 0).entry 0).toNat : ℤ)| ≤
        200 ∧
      (window [10850] 1 0).repeatCount ≠ 1 ∧ (window [10850] 1 1).repeatCount = 1 := by decide +kernel

theorem witness_AccumulatorBounds : 7 ≤ 67 ∧ 67 ≤ 67 := by decide

/-- A3's quirk on four pairs: the last INVALID pair is pair 1, and the pairs 2 and 3 follow it. -/
theorem witness_TheCodeIsTheBitsAfterTheLastInvalidPair :
    2 ≤ 8 / 2 ∧ pairClass (window [10850, 1050, 350, 700, 700, 1050, 350, 350, 1050] 8 1) ⟨31, 3⟩ 20 1 = .invalid ∧
      pairClass (window [10850, 1050, 350, 700, 700, 1050, 350, 350, 1050] 8 1) ⟨31, 3⟩ 20 2 = .bit1 ∧
      pairClass (window [10850, 1050, 350, 700, 700, 1050, 350, 350, 1050] 8 1) ⟨31, 3⟩ 20 3 = .bit0 := by decide +kernel

/-- A10, at the smallest window. -/
theorem witness_AttemptSucceedsExactlyOnANonZeroCode :
    attempt (window [10850, 350, 1050, 350, 1050, 1050, 350, 350] 8 1) 20 7 9#32 1 ⟨31, 3⟩ =
        some ⟨1, 3, 1, 9#32, 350⟩ ∧ 7 ≤ 67 := by decide +kernel

theorem witness_DecodeTriesProtocolsInAscendingOrder : ProtocolTable.ascending Config.protocols = true := by decide

/-- A processing that publishes. -/
theorem witness_OnlyAConfirmedGapPublishes :
    (withNext rxAboutToPublish 9#32 .process).pending = eventAt 9#32 .process :: [] ∧
      (eventAt 9#32 .process).rstN = true ∧
      ∃ t, step (withNext rxAboutToPublish 9#32 .process) = .next t ∧ t.result ≠ rxAboutToPublish.result :=
  ⟨rfl, rfl, _, rfl, by decide +kernel⟩

theorem witness_TheResultIsAnAtomicSnapshot :
    (withNext rxAboutToPublish 9#32 .process).pending = eventAt 9#32 .process :: [] ∧
      (eventAt 9#32 .process).rstN = true ∧ ∃ t, step (withNext rxAboutToPublish 9#32 .process) = .next t :=
  ⟨rfl, rfl, _, rfl⟩

theorem witness_OnlyEdgeProcessingChangesTheDecoder : ∃ t, exec .cleanup rxAboutToPublish = .next t := ⟨_, rfl⟩

theorem witness_TheDecoderIsHiddenFromTheHost : ∃ t, exec (.regRead .rxMeta) rxAboutToPublish = .next t := ⟨_, rfl⟩

/-- One event onto a full buffer, at the largest duration that is no gap. -/
theorem witness_NoiseWithoutAGapPublishesNothing :
    (window [] 68 1).changeCount ≤ 68 ∧ (5000#32 : Word).toNat ≤ 5000 ∧
      68 < (window [] 68 1).changeCount + [(5000#32 : Word)].length := by decide +kernel

/-- RT3 and RT4: the widths 32 and 3; the default tolerance. -/
theorem witness_ATransmittedCodeIsDecoded :
    lookup Config.protocols 1 = some ⟨31, 3⟩ ∧ 4294967295 ≠ 0 ∧ 4294967295 < 2 ^ 32 ∧ 5000 < 31 * 350 ∧
      3 * 350 ≤ 5000 ∧ 20 < 100 * (3 - 1) ∧ 200 < |(((1000#32 : Word).toNat : ℤ)) - ((31 * 350 : Nat) : ℤ)| ∧
      State.reset.decoder.changeCount = 0 ∧ State.reset.decoder.repeatCount = 0 ∧
      lookup Config.protocols 2 = some ⟨10, 2⟩ ∧ 1 < 2 ^ 3 ∧ 3 ≤ 3 ∧ 5000 < 10 * 650 ∧ 2 * 650 ≤ 5000 ∧
      20 < 100 * (2 - 1) ∧ 200 < |(((1000#32 : Word).toNat : ℤ)) - ((10 * 650 : Nat) : ℤ)| := by decide +kernel

/-- A state in the middle of a train meets the invariants, and it steps. -/
theorem witness_EveryStepKeepsTheInvariant :
    txBusy.Inv ∧ ∃ t, step (withNext txBusy 1650#32 .segStep) = .next t := by
  refine ⟨⟨⟨Nat.zero_le _, Nat.zero_le _⟩, ?_, ⟨by decide, by decide, ?_, by decide⟩,
    ⟨by decide, by decide, by decide, by decide, by decide⟩, ?_, ⟨fun _ => rfl, by decide⟩⟩, _, rfl⟩
  · exact ⟨by decide, by decide, fun _ => rfl, Nat.zero_le _⟩
  · intro g h
    cases h
    rfl
  · intro _
    exact ⟨by decide, by decide, by decide, by decide, ⟨10, 2⟩, [⟨.high, 1300⟩, ⟨.low, 650⟩], ⟨.high, 650⟩, by decide,
      rfl, by decide⟩

/-- The same state is where the block has still to come to rest. -/
theorem witness_TheBlockCanAlwaysComeToRest : txBusy.Inv := witness_EveryStepKeepsTheInvariant.1

/-- A command and an edge processing to come; a legal table; an entry of it at its largest identifier and units, with legal
operands of SEND; an identifier without an entry. -/
theorem witness_TheTableIsAnArgumentOfTheMachine :
    ((withNext txIdle 9#32 (.port (.cmd 0x5#32))).pending = eventAt 9#32 (.port (.cmd 0x5#32)) :: [] ∧
      decode 9#32 (.cmd 0x5#32) = .ok .send) ∧
    ((withNext rxAboutToPublish 9#32 .process).pending = eventAt 9#32 .process :: [] ∧
      (withNext rxAboutToPublish 9#32 .process).efifo = 10850#32 :: []) ∧
    ProtocolTable.wf [(1, ⟨31, 3⟩), (2, ⟨10, 2⟩), (15, ⟨255, 255⟩)] = true ∧
    Instr.cleanup ∉ [Instr.send, .encLogic0, .encLogic1, .encSync] ∧
    ((sendRegs 1#32 0x00010F01#32 65535#32).regs.pulseUs ≠ 0#16 ∧
      ((sendRegs 1#32 0x00010F01#32 65535#32).regs.protocol.toNat, (⟨255, 255⟩ : Protocol)) ∈
        [(1, ⟨31, 3⟩), (2, ⟨10, 2⟩), (15, ⟨255, 255⟩)] ∧
      (sendRegs 1#32 0x00010F01#32 65535#32).status.busy = false ∧
      (sendRegs 1#32 0x00010F01#32 65535#32).status.mode = .tx ∧
      (sendRegs 1#32 0x00010F01#32 65535#32).regs.bitWidth.toNat = 1 ∧
      (sendRegs 1#32 0x00010F01#32 65535#32).regs.txCode.toNat < 2 ^ 1 ∧
      (sendRegs 1#32 0x00010F01#32 65535#32).regs.reps ≠ 0#8) ∧
    (sendRegs 1#32 0x00010E20#32 1#32).regs.pulseUs ≠ 0#16 ∧
      (sendRegs 1#32 0x00010E20#32 1#32).regs.bitWidth.toNat = 32 ∧
      (sendRegs 1#32 0x00010E20#32 1#32).regs.protocol.toNat ∉
        [(1, (⟨31, 3⟩ : Protocol)), (2, ⟨10, 2⟩), (15, ⟨255, 255⟩)].map Prod.fst := by decide

end Sys2Proof.Tests
end

/-! ## Blocks built with other tables

The facts about the protocol table, the checks that look a protocol up, and the step of a block of any table; then the
statement that the table is an argument of the machine (00_scope.md R8; log 6). -/

namespace Sys2Proof.Machine

/-! ### The table's lookup (41_encoder.md R110) -/

theorem lookup_cons_self (id : Nat) (p : Protocol) (rest : ProtocolTable) : lookup ((id, p) :: rest) id = some p := by
  simp [lookup]

theorem lookup_cons_of_ne {k id : Nat} (h : k ≠ id) (p : Protocol) (rest : ProtocolTable) :
    lookup ((k, p) :: rest) id = lookup rest id := by
  simp [lookup, h]

/-- What lookup finds is an entry, in any table. -/
theorem mem_of_lookup_eq_some {tbl : ProtocolTable} {id : Nat} {p : Protocol} (h : lookup tbl id = some p) :
    (id, p) ∈ tbl := by
  induction tbl with
  | nil => simp [lookup] at h
  | cons e rest ih =>
    obtain ⟨k, q⟩ := e
    by_cases hk : k = id
    · subst hk
      rw [lookup_cons_self, Option.some_inj] at h
      simp [h]
    · rw [lookup_cons_of_ne hk] at h
      exact List.mem_cons_of_mem _ (ih h)

/-- Strictly rising identifiers leave no earlier entry to find instead. -/
theorem lookup_eq_some_of_mem {tbl : ProtocolTable} {id : Nat} {p : Protocol}
    (hasc : tbl.Pairwise fun a b => a.1 < b.1) (h : (id, p) ∈ tbl) : lookup tbl id = some p := by
  induction tbl with
  | nil => simp at h
  | cons e rest ih =>
    obtain ⟨k, q⟩ := e
    obtain ⟨hlt, hrest⟩ := List.pairwise_cons.mp hasc
    rcases List.mem_cons.mp h with heq | hmem
    · obtain ⟨rfl, rfl⟩ := Prod.mk.inj heq
      exact lookup_cons_self id p rest
    · rw [lookup_cons_of_ne (Nat.ne_of_lt (hlt (id, p) hmem))]
      exact ih hrest hmem

theorem wf_pairwise {tbl : ProtocolTable} (hwf : ProtocolTable.wf tbl = true) : tbl.Pairwise fun a b => a.1 < b.1 := by
  simp only [ProtocolTable.wf, Bool.and_eq_true] at hwf
  obtain ⟨⟨-, hasc⟩, -⟩ := hwf
  exact of_decide_eq_true hasc

/-- The units of a legal table's entries fit 8 bits (00_scope.md R8). -/
theorem wf_units_le {tbl : ProtocolTable} {id : Nat} {p : Protocol} (hwf : ProtocolTable.wf tbl = true)
    (h : (id, p) ∈ tbl) : p.syncUnits ≤ 255 ∧ p.pulseUnits ≤ 255 := by
  simp only [ProtocolTable.wf, Bool.and_eq_true, List.all_eq_true] at hwf
  obtain ⟨⟨hentries, -⟩, -⟩ := hwf
  have hentry := hentries _ h
  simp only [ProtocolTable.entryWf, Bool.and_eq_true, decide_eq_true_eq] at hentry
  obtain ⟨⟨-, -, hsync⟩, -, hpulse⟩ := hentry
  exact ⟨hsync, hpulse⟩

/-- A legal table is a map: lookup finds exactly its entries. -/
theorem lookup_eq_some_iff_mem {tbl : ProtocolTable} (hwf : ProtocolTable.wf tbl = true) (id : Nat) (p : Protocol) :
    lookup tbl id = some p ↔ (id, p) ∈ tbl :=
  ⟨mem_of_lookup_eq_some, lookup_eq_some_of_mem (wf_pairwise hwf)⟩

theorem lookup_eq_none_of_not_mem {tbl : ProtocolTable} {id : Nat} (h : ∀ p, (id, p) ∉ tbl) : lookup tbl id = none :=
  Option.eq_none_iff_forall_ne_some.mpr fun p hp => h p (mem_of_lookup_eq_some hp)

/-! ### Waveforms (41_encoder.md R112, R113) -/

/-- R113's bound, 255 * 65535. -/
theorem wave_le {tbl : ProtocolTable} {id unit : Nat} {p : Protocol} (hwf : ProtocolTable.wf tbl = true)
    (h : (id, p) ∈ tbl) (hunit : unit ≤ 65535) (sym : Symbol) :
    (wave p unit sym).1 ≤ 16711425 ∧ (wave p unit sym).2 ≤ 16711425 := by
  obtain ⟨hsync, hpulse⟩ := wf_units_le hwf h
  have hsyncUnit : p.syncUnits * unit ≤ 255 * 65535 := Nat.mul_le_mul hsync hunit
  have hpulseUnit : p.pulseUnits * unit ≤ 255 * 65535 := Nat.mul_le_mul hpulse hunit
  cases sym <;> simp only [wave] <;> omega

theorem pulseUs_le (r : HostRegs) : r.pulseUs.toNat ≤ 65535 := Nat.le_of_lt_succ r.pulseUs.isLt

/-- The wave registers hold a waveform of a legal table exactly. -/
theorem toNat_ofNat_wave {tbl : ProtocolTable} {id : Nat} {p : Protocol} (hwf : ProtocolTable.wf tbl = true)
    (h : (id, p) ∈ tbl) (r : HostRegs) (sym : Symbol) :
    (BitVec.ofNat 32 (wave p r.pulseUs.toNat sym).1).toNat = (wave p r.pulseUs.toNat sym).1 ∧
      (BitVec.ofNat 32 (wave p r.pulseUs.toNat sym).2).toNat = (wave p r.pulseUs.toNat sym).2 := by
  obtain ⟨hhigh, hlow⟩ := wave_le hwf h (pulseUs_le r) sym
  constructor <;> rw [BitVec.toNat_ofNat, Nat.mod_eq_of_lt (by omega)]

/-! ### The block of the default table -/

theorem execUnder_default (i : Instr) (s : State) : execUnder Config.protocols i s = exec i s := by
  cases i <;> rfl

theorem stepUnder_default (s : State) : stepUnder Config.protocols s = step s := by
  have hexec : execUnder Config.protocols = exec := funext fun i => funext fun s => execUnder_default i s
  have hprocess : processEdgeUnder Config.protocols = processEdge := rfl
  rw [stepUnder, takeNextUnder, hexec, hprocess, step, takeNext]

/-! ### A step with reset released -/

theorem takeNextBy_eventAt (run : Meanings) (process : State → State) {s : State} {now : Word} {op : Op}
    {rest : List Event} (h : s.pending = eventAt now op :: rest) :
    takeNextBy run process s = performBy run process op { s with nowUs := now, pending := rest } := by
  rcases takeNextBy_cases run process s with ⟨hnil, -⟩ | ⟨e, rest', hcons, hrst, -⟩ | ⟨e, rest', hcons, -, heq⟩
  · simp [h] at hnil
  · rw [h] at hcons
    obtain ⟨rfl, rfl⟩ := List.cons.inj hcons
    simp [eventAt] at hrst
  · rw [h] at hcons
    obtain ⟨rfl, rfl⟩ := List.cons.inj hcons
    rw [heq]
    rfl

/-- A carrier at the ports runs the instruction it decodes to, as the block of the table means it. -/
theorem stepUnder_port (tbl : ProtocolTable) {s : State} {now : Word} {rest : List Event} {c : Carrier} {i : Instr}
    (h : s.pending = eventAt now (.port c) :: rest) (hi : decode now c = .ok i) :
    stepUnder tbl s = execUnder tbl i { s with nowUs := now, pending := rest } := by
  rw [stepUnder, takeNextUnder, takeNextBy_eventAt _ _ h]
  simp only [performBy, presentBy, hi]

theorem stepUnder_process (tbl : ProtocolTable) {s : State} {now : Word} {rest : List Event}
    (h : s.pending = eventAt now .process :: rest) :
    stepUnder tbl s = .next (processEdgeUnder tbl { s with nowUs := now, pending := rest }) := by
  rw [stepUnder, takeNextUnder, takeNextBy_eventAt _ _ h]
  rfl

/-! ### Edge processing with a table -/

/-- The oldest event goes through the decoder of the table. -/
theorem processEdgeUnder_cons (tbl : ProtocolTable) {s : State} {ts : Word} {waiting : List Word}
    (h : s.efifo = ts :: waiting) :
    processEdgeUnder tbl s =
      publishIfAny (decoderStep tbl s.regs.tolPct.toNat ts s.decoder).2
        { s with efifo := waiting, decoder := (decoderStep tbl s.regs.tolPct.toNat ts s.decoder).1 } := by
  rcases processEdgeUnder_cases tbl s with ⟨hnil, -⟩ | ⟨ts', waiting', hcons, heq⟩
  · simp [h] at hnil
  · rw [h] at hcons
    obtain ⟨rfl, rfl⟩ := List.cons.inj hcons
    exact heq

@[simp] theorem publishIfAny_none (s : State) : publishIfAny none s = s := rfl
@[simp] theorem publishIfAny_some (r : DecodedResult) (s : State) : publishIfAny (some r) s = publish r s := rfl

@[simp] theorem publishIfAny_decoder (r : Option DecodedResult) (s : State) :
    (publishIfAny r s).decoder = s.decoder := by
  cases r <;> rfl

/-! ### Instructions that use no table, and a write to CMD -/

/-- Only SEND, ENC_* and a write to CMD look at the table. -/
theorem execUnder_of_no_lookup (tbl : ProtocolTable) {i : Instr} (s : State)
    (hi : i ∉ [Instr.send, .encLogic0, .encLogic1, .encSync]) (hcmd : ∀ w, i ≠ .regWrite .cmd w) :
    execUnder tbl i s = exec i s := by
  cases i with
  | send | encLogic0 | encLogic1 | encSync => simp at hi
  | regWrite slot v =>
    have hslot : slot ≠ .cmd := fun hs => hcmd v (by rw [hs])
    simp [execUnder, exec, execRegWrite, execRegWriteUnder, hslot]
  | nop | txEnable | txDisable | rxEnable | rxDisable | cleanup | regRead _ | edge _ => rfl

theorem runCommand_eq_execUnder (tbl : ProtocolTable) (c : Command) (s : State) :
    runCommand tbl c s = execUnder tbl c.toInstr s := by
  cases c <;> rfl

theorem decode_cmd_eq_ok_iff (now w : Word) (i : Instr) :
    decode now (.cmd w) = .ok i ↔ ∃ c, decodeCommand w = some c ∧ c.toInstr = i := by
  cases h : decodeCommand w <;> simp [decode, h]

theorem execUnder_regWrite_cmd (tbl : ProtocolTable) {now w : Word} {i : Instr} (s : State)
    (hi : decode now (.cmd w) = .ok i) : execUnder tbl (.regWrite .cmd w) s = execUnder tbl i s := by
  obtain ⟨c, hc, rfl⟩ := (decode_cmd_eq_ok_iff now w i).mp hi
  calc execUnder tbl (.regWrite .cmd w) s = writeCmd tbl w s := rfl
    _ = runCommand tbl c s := by simp only [writeCmd, hc]
    _ = execUnder tbl c.toInstr s := runCommand_eq_execUnder tbl c s

/-! ### ENC_* with a table (41_encoder.md R114 to R116) -/

/-- The instruction that writes a symbol's waveform. -/
def Symbol.encInstr : Symbol → Instr
  | .logic0 => .encLogic0
  | .logic1 => .encLogic1
  | .sync => .encSync

theorem execUnder_encInstr (tbl : ProtocolTable) (sym : Symbol) (s : State) :
    execUnder tbl sym.encInstr s = .next (encCommand tbl sym s) := by
  cases sym <;> rfl

theorem execUnder_encInstr_of_mem {tbl : ProtocolTable} {s : State} {p : Protocol} (hwf : ProtocolTable.wf tbl = true)
    (hpulse : s.regs.pulseUs ≠ 0#16) (hp : (s.regs.protocol.toNat, p) ∈ tbl) (sym : Symbol) :
    execUnder tbl sym.encInstr s = .next
      { s with
        wave := { high := BitVec.ofNat 32 (wave p s.regs.pulseUs.toNat sym).1
                  low := BitVec.ofNat 32 (wave p s.regs.pulseUs.toNat sym).2 }
        status := { s.status with err := .ok } } := by
  have hcheck : encCheck tbl s = .ok p :=
    (encCheck_ok_iff tbl s p).mpr ⟨hpulse, (lookup_eq_some_iff_mem hwf _ p).mpr hp⟩
  rw [execUnder_encInstr, encCommand, hcheck]
  rfl

theorem execUnder_encInstr_of_not_mem {tbl : ProtocolTable} {s : State} (hpulse : s.regs.pulseUs ≠ 0#16)
    (hnone : ∀ p, (s.regs.protocol.toNat, p) ∉ tbl) (sym : Symbol) :
    execUnder tbl sym.encInstr s = .next (raise .unsupportedProtocol s) := by
  have hcheck : encCheck tbl s = .error .unsupportedProtocol := by
    simp [encCheck, selectedProtocol, hpulse, lookup_eq_none_of_not_mem hnone]
  rw [execUnder_encInstr, encCommand, hcheck]
  rfl

theorem mem_encInstrs_iff (i : Instr) :
    i ∈ [Instr.encLogic0, .encLogic1, .encSync] ↔ ∃ sym : Symbol, sym.encInstr = i := by
  constructor
  · intro h
    simp only [List.mem_cons, List.not_mem_nil, or_false] at h
    rcases h with rfl | rfl | rfl
    exacts [⟨.logic0, rfl⟩, ⟨.logic1, rfl⟩, ⟨.sync, rfl⟩]
  · rintro ⟨sym, rfl⟩
    cases sym <;> simp [Symbol.encInstr]

/-! ### SEND with a table (42_transmitter.md R125) -/

/-- Every repetition ends with its sync, so a train of at least one has a first segment. -/
theorem pulseTrain_ne_nil (p : Protocol) (c w unit : Nat) {reps : Nat} (h : reps ≠ 0) :
    pulseTrain p c w unit reps ≠ [] := by
  obtain ⟨n, rfl⟩ := Nat.exists_eq_succ_of_ne_zero h
  simp [pulseTrain, repeated, oneRep, waveSegments]

theorem sendCheck_eq_unsupported {tbl : ProtocolTable} {s : State} (hbusy : s.status.busy = false)
    (hmode : s.status.mode = .tx) (hw1 : 1 ≤ s.regs.bitWidth.toNat) (hw2 : s.regs.bitWidth.toNat ≤ 32)
    (hpulse : s.regs.pulseUs ≠ 0#16) (hnone : selectedProtocol tbl s = none) :
    sendCheck tbl s = .error .unsupportedProtocol := by
  have hargs : ¬(s.regs.bitWidth.toNat = 0 ∨ s.regs.bitWidth.toNat > Config.codeTxW ∨ s.regs.pulseUs = 0#16) := by
    unfold Config.codeTxW
    rintro (h | h | h)
    · omega
    · omega
    · exact hpulse h
  simp only [sendCheck, hbusy, hmode, hargs, hnone, Bool.false_eq_true, ne_eq, not_true_eq_false, if_false]

/-- Starting a train that is not empty latches the operands, clears TX_ABORT, sets BUSY and begins the first segment. -/
theorem succeed_acceptSend_of_cons {p : Protocol} {s : State} {g : Segment} {rest : List Segment}
    (h : trainOf p s.regs = g :: rest) :
    succeed (acceptSend p s) =
      { s with
        tx := { code := s.regs.txCode, width := s.regs.bitWidth, proto := s.regs.protocol, pulse := s.regs.pulseUs,
                reps := s.regs.reps, cur := some g, rest := rest, segStart := s.nowUs }
        status := { s.status with busy := true, txAbort := false, err := .ok }
        pins := { s.pins with out := g.level }
        trace := s.trace ++ [.seg g.level g.duration] } := by
  rw [acceptSend, h]
  rfl

theorem execUnder_send_of_check_ok {tbl : ProtocolTable} {s : State} {p : Protocol} (h : sendCheck tbl s = .ok p) :
    execUnder tbl .send s = .next (succeed (acceptSend p s)) := by
  simp only [execUnder, execSendUnder, command, h]

theorem execUnder_send_of_check_error {tbl : ProtocolTable} {s : State} {e : ErrCode}
    (h : sendCheck tbl s = .error e) : execUnder tbl .send s = .next (raise e s) := by
  simp only [execUnder, execSendUnder, command, h]

/-! ### The obligation -/

/-- Settles O60, clause by clause: the default block, the step, and the instructions of a block of any legal table. -/
theorem theTableIsAnArgumentOfTheMachine : Obligations.TheTableIsAnArgumentOfTheMachine := by
  refine ⟨⟨execUnder_default, stepUnder_default⟩, fun tbl s now rest => ⟨?port, ?process⟩, fun tbl s hwf =>
    ⟨fun i => execUnder_of_no_lookup tbl s, fun w i => execUnder_regWrite_cmd tbl s, ?entry, ?noEntry⟩⟩
  case port => exact fun c i hpending hi => stepUnder_port tbl hpending hi
  case process =>
    intro ts waiting hpending hfifo
    refine ⟨_, stepUnder_process tbl hpending, ?_⟩
    rw [processEdgeUnder_cons tbl (s := { s with nowUs := now, pending := rest }) hfifo]
    refine ⟨publishIfAny_decoder _ _, fun hnone => ?_, fun r hsome => ?_⟩
    · simp only [hnone, publishIfAny_none]
    · simp [hsome]
  case entry =>
    intro p hpulse hp
    have hexec := execUnder_encInstr_of_mem hwf hpulse hp
    have hexact := toNat_ofNat_wave hwf hp s.regs
    refine ⟨⟨_, _, ?_, (hexact .logic0).2, hexec .logic0, hexec .logic1⟩,
      ⟨_, _, ?_, (hexact .sync).2, hexec .sync⟩, ?send⟩
    · exact (hexact .logic0).1.trans (Nat.one_mul _)
    · exact (hexact .sync).1.trans (Nat.one_mul _)
    case send =>
      intro hbusy hmode hw1 hw2 hcode hreps
      have hcheck : sendCheck tbl s = .ok p :=
        (sendCheck_ok_iff tbl s p).mpr
          ⟨hbusy, hmode, hw1, hw2, hpulse, (lookup_eq_some_iff_mem hwf _ p).mpr hp, hcode⟩
      have hreps' : s.regs.reps.toNat ≠ 0 := fun h0 => hreps (BitVec.eq_of_toNat_eq h0)
      obtain ⟨g, rest, htrain⟩ := List.exists_cons_of_ne_nil
        (pulseTrain_ne_nil p s.regs.txCode.toNat s.regs.bitWidth.toNat s.regs.pulseUs.toNat hreps')
      exact ⟨g, rest, htrain, by rw [execUnder_send_of_check_ok hcheck, succeed_acceptSend_of_cons htrain]⟩
  case noEntry =>
    intro hpulse hnone
    refine ⟨fun i hi => ?_, fun hbusy hmode hw1 hw2 => ?_⟩
    · obtain ⟨sym, rfl⟩ := (mem_encInstrs_iff i).mp hi
      exact execUnder_encInstr_of_not_mem hpulse hnone sym
    · exact execUnder_send_of_check_error
        (sendCheck_eq_unsupported hbusy hmode hw1 hw2 hpulse (lookup_eq_none_of_not_mem hnone))

end Sys2Proof.Machine

/-! ## The state and what every operation keeps

The fields of the register words; what each instruction and each operation of the environment can do, said once; then the
statements of 10_state.md: the invariants, the sticky flags, the trace, and the decoder that no host sees. -/

namespace Sys2Proof.Machine

/-! ### Bit fields (10_state.md R27, R36, 30_encoding.md R82)

The widths of the appended fields are given as numerals where a word's type has been folded to 32. -/

/-- A field that a mask covers is 0 when the masked word is. -/
theorem extractLsb'_eq_zero_of_and_mask {w start len : Nat} {x m : BitVec w} (h : x &&& m = 0#w)
    (hm : m.extractLsb' start len = BitVec.allOnes len) : x.extractLsb' start len = 0#len := by
  calc x.extractLsb' start len = x.extractLsb' start len &&& m.extractLsb' start len := by rw [hm, BitVec.and_allOnes]
    _ = (x &&& m).extractLsb' start len := BitVec.extractLsb'_and.symm
    _ = 0#len := by rw [h, BitVec.extractLsb'_zero]

/-- Keeping the bits of one mask clears those of every mask disjoint from it. -/
theorem and_and_eq_zero_of_disjoint {w : Nat} (v : BitVec w) {keep reserved : BitVec w}
    (h : keep &&& reserved = 0#w) : v &&& keep &&& reserved = 0#w := by
  rw [BitVec.and_assoc, h, BitVec.and_zero]

theorem getLsbD_append_high (n m : Nat) {i : Nat} (x : BitVec n) (y : BitVec m) (h : m ≤ i) :
    (x ++ y).getLsbD i = x.getLsbD (i - m) := by
  rw [BitVec.getLsbD_append, if_neg (Nat.not_lt.mpr h)]

theorem getLsbD_append_ofBool {n : Nat} (x : BitVec n) (b : Bool) : (x ++ BitVec.ofBool b).getLsbD 0 = b := by
  rw [BitVec.getLsbD_append, if_pos Nat.one_pos, BitVec.getLsbD_ofBool]
  rfl

theorem extractLsb'_append_high (n m : Nat) {start len : Nat} (x : BitVec n) (y : BitVec m) (h : m ≤ start) :
    (x ++ y).extractLsb' start len = x.extractLsb' (start - m) len :=
  BitVec.extractLsb'_append_eq_of_le h

theorem resultMeta_bitLength (r : DecodedResult) : (resultMeta r).extractLsb' 0 6 = BitVec.ofNat 6 r.bitLength :=
  BitVec.extractLsb'_append_eq_right

theorem resultMeta_protocol (r : DecodedResult) : (resultMeta r).extractLsb' 8 4 = BitVec.ofNat 4 r.protocol := by
  rw [resultMeta, extractLsb'_append_high 26 6 _ _ (by decide), extractLsb'_append_high 24 2 _ _ (by decide)]
  exact BitVec.extractLsb'_append_eq_right

theorem resultMeta_reserved (r : DecodedResult) : resultMeta r &&& 0xFFFFF0C0#32 = 0#32 := by
  have hmask : 0xFFFFF0C0#32 = 0xFFFFF#20 ++ 0#4 ++ 0b11#2 ++ 0#6 := rfl
  rw [resultMeta, hmask, BitVec.and_append (w := 26) (v := 6), BitVec.and_append (w := 24) (v := 2),
    BitVec.and_append (w := 20) (v := 4), BitVec.zero_and, BitVec.zero_and, BitVec.and_zero, BitVec.and_zero]
  rfl

theorem codeHi_reserved (b : Bool) : (0#31 ++ BitVec.ofBool b) &&& 0xFFFFFFFE#32 = 0#32 := by
  cases b <;> rfl

/-- Above MODE, one field after the other is uncovered by dropping those below it. -/
theorem statusWord_fields (f : Status) :
    f.word.extractLsb' 0 2 = f.mode.bits ∧ f.word.getLsbD 2 = f.busy ∧ f.word.getLsbD 3 = f.txAbort ∧
      f.word.extractLsb' 4 4 = f.err.bits ∧ f.word.getLsbD 8 = f.rxOvf ∧ f.word.getLsbD 9 = f.rxValid ∧
      f.word.extractLsb' 10 22 = 0#22 := by
  unfold Status.word
  refine ⟨BitVec.extractLsb'_append_eq_right, ?busy, ?txAbort, ?err, ?rxOvf, ?rxValid, ?zeros⟩
  case busy =>
    rw [getLsbD_append_high 30 2 _ _ (by decide)]
    exact getLsbD_append_ofBool _ _
  case txAbort =>
    rw [getLsbD_append_high 30 2 _ _ (by decide), getLsbD_append_high 29 1 _ _ (by decide)]
    exact getLsbD_append_ofBool _ _
  case err =>
    rw [extractLsb'_append_high 30 2 _ _ (by decide), extractLsb'_append_high 29 1 _ _ (by decide),
      extractLsb'_append_high 28 1 _ _ (by decide)]
    exact BitVec.extractLsb'_append_eq_right
  case rxOvf =>
    rw [getLsbD_append_high 30 2 _ _ (by decide), getLsbD_append_high 29 1 _ _ (by decide),
      getLsbD_append_high 28 1 _ _ (by decide), getLsbD_append_high 24 4 _ _ (by decide)]
    exact getLsbD_append_ofBool _ _
  case rxValid =>
    rw [getLsbD_append_high 30 2 _ _ (by decide), getLsbD_append_high 29 1 _ _ (by decide),
      getLsbD_append_high 28 1 _ _ (by decide), getLsbD_append_high 24 4 _ _ (by decide),
      getLsbD_append_high 23 1 _ _ (by decide)]
    exact getLsbD_append_ofBool _ _
  case zeros =>
    rw [extractLsb'_append_high 30 2 _ _ (by decide), extractLsb'_append_high 29 1 _ _ (by decide),
      extractLsb'_append_high 28 1 _ _ (by decide), extractLsb'_append_high 24 4 _ _ (by decide),
      extractLsb'_append_high 23 1 _ _ (by decide)]
    exact BitVec.extractLsb'_append_eq_left

/-- Two neighbouring fields are one. -/
theorem append_fields {w : Nat} (x : BitVec w) (start len₁ len₂ : Nat) :
    x.extractLsb' (start + len₁) len₂ ++ x.extractLsb' start len₁ = x.extractLsb' start (len₂ + len₁) :=
  BitVec.extractLsb'_append_extractLsb'_eq_extractLsb' rfl

theorem txCfg_eq_fields {r : HostRegs} (h : r.txCfg &&& 0xFF00F0C0#32 = 0#32) :
    r.txCfg = 0#8 ++ r.reps ++ 0#4 ++ r.protocol ++ 0#2 ++ r.bitWidth := by
  have h24 : r.txCfg.extractLsb' 24 8 = 0#8 := extractLsb'_eq_zero_of_and_mask h rfl
  have h12 : r.txCfg.extractLsb' 12 4 = 0#4 := extractLsb'_eq_zero_of_and_mask h rfl
  have h6 : r.txCfg.extractLsb' 6 2 = 0#2 := extractLsb'_eq_zero_of_and_mask h rfl
  rw [← h24, ← h12, ← h6, HostRegs.reps, HostRegs.protocol, HostRegs.bitWidth, append_fields _ 16 8 8,
    append_fields _ 12 4 16, append_fields _ 8 4 20, append_fields _ 6 2 24, append_fields _ 0 6 26]
  exact BitVec.extractLsb'_eq_self.symm

theorem txPulse_eq_fields {r : HostRegs} (h : r.txPulse &&& 0xFFFF0000#32 = 0#32) :
    r.txPulse = 0#16 ++ r.pulseUs := by
  have h16 : r.txPulse.extractLsb' 16 16 = 0#16 := extractLsb'_eq_zero_of_and_mask h rfl
  rw [← h16]
  exact (BitVec.extractLsb'_append_extractLsb' (w := 16) (len := 16)).symm

theorem rxTol_eq_fields {r : HostRegs} (h : r.rxTol &&& 0xFFFFFF00#32 = 0#32) : r.rxTol = 0#24 ++ r.tolPct := by
  have h8 : r.rxTol.extractLsb' 8 24 = 0#24 := extractLsb'_eq_zero_of_and_mask h rfl
  rw [← h8]
  exact (BitVec.extractLsb'_append_extractLsb' (w := 24) (len := 8)).symm

/-- Settles O11: the places of STATUS's fields and the reserved bits that the masks hold at 0. -/
theorem registerWordsAreTheirFields : Obligations.RegisterWordsAreTheirFields := by
  refine ⟨fun f => ?_, fun r => ⟨txCfg_eq_fields, txPulse_eq_fields, rxTol_eq_fields⟩⟩
  obtain ⟨hmode, hbusy, habort, herr, hovf, hvalid, hzero⟩ := statusWord_fields f
  refine ⟨?_, hbusy, habort, ?_, hovf, hvalid, hzero⟩
  · rw [hmode]
    cases f.mode <;> rfl
  · rw [herr]
    cases f.err <;> rfl

/-! ### What an instruction can do -/

theorem opc_eq_of_commandOfOpc {opc : BitVec 8} {c : Command} (h : commandOfOpc opc = some c) : opc = c.opc := by
  unfold commandOfOpc at h
  split at h <;> cases h <;> rfl

/-- The only word that is a command is the one of the opcode map (30_encoding.md R77). -/
theorem word_eq_of_decodeCommand {w : Word} {c : Command} (h : decodeCommand w = some c) : w = c.word := by
  unfold decodeCommand at h
  split at h
  · cases h
  · rename_i hreserved
    rw [Command.word, ← opc_eq_of_commandOfOpc h, ← not_not.mp hreserved]
    exact (BitVec.extractLsb'_append_extractLsb' (w := 24) (len := 8)).symm

/-- The effects of an accepted command, with the checks that let it be, before it reports OK. -/
inductive CommandEffect (s : State) : Command → State → Prop where
  | nop : CommandEffect s .nop s
  | txEnable (hmode : s.status.mode ≠ .rx) : CommandEffect s .txEnable (enableTx s)
  | txDisable : CommandEffect s .txDisable (disableTx s)
  | rxEnable (hmode : s.status.mode ≠ .tx) : CommandEffect s .rxEnable (enableRx s)
  | rxDisable : CommandEffect s .rxDisable (disableRx s)
  | send (p : Protocol) (hcheck : sendCheck Config.protocols s = .ok p) : CommandEffect s .send (acceptSend p s)
  | cleanup : CommandEffect s .cleanup (cleanUp s)
  | encLogic0 (w : Nat × Nat) : CommandEffect s .encLogic0 (setWave w s)
  | encLogic1 (w : Nat × Nat) : CommandEffect s .encLogic1 (setWave w s)
  | encSync (w : Nat × Nat) : CommandEffect s .encSync (setWave w s)

/-- Everything an instruction can do. A command runs as itself or through a write of its word to CMD (log 8). -/
inductive InstrEffect (s : State) : Instr → State → Prop where
  | rejected (i : Instr) (e : ErrCode) : InstrEffect s i (raise e s)
  | accepted {i : Instr} {c : Command} {u : State} (hi : i = c.toInstr ∨ i = .regWrite .cmd c.word)
      (hu : CommandEffect s c u) : InstrEffect s i (succeed u)
  | regRead (slot : Slot) : InstrEffect s (.regRead slot) (driveRdata (slotValue s slot) s)
  | regWrite (slot : Slot) (v : Word) (hslot : slot ≠ .cmd) :
      InstrEffect s (.regWrite slot v) { s with regs := storeSlot slot v s.regs }
  | edge (ts : Word) : InstrEffect s (.edge ts) (captureEdge ts s)

theorem encCommand_cases (tbl : ProtocolTable) (sym : Symbol) (s : State) :
    (∃ e, encCommand tbl sym s = raise e s) ∨ (∃ w, encCommand tbl sym s = succeed (setWave w s)) := by
  rcases command_cases (encCheck tbl s) (fun p => setWave (wave p s.regs.pulseUs.toNat sym)) s with
    ⟨e, -, h⟩ | ⟨p, -, h⟩
  · exact .inl ⟨e, h⟩
  · exact .inr ⟨_, h⟩

/-- A command is rejected with a code, or makes its effects and reports OK. -/
theorem runCommand_cases (c : Command) (s : State) :
    (∃ e, runCommand Config.protocols c s = .next (raise e s)) ∨
      (∃ u, CommandEffect s c u ∧ runCommand Config.protocols c s = .next (succeed u)) := by
  cases c with
  | nop => exact .inr ⟨_, .nop, rfl⟩
  | txDisable => exact .inr ⟨_, .txDisable, rfl⟩
  | rxDisable => exact .inr ⟨_, .rxDisable, rfl⟩
  | cleanup => exact .inr ⟨_, .cleanup, rfl⟩
  | txEnable =>
    rcases command_cases (exclusiveWith .rx s) (fun _ => enableTx) s with ⟨e, -, h⟩ | ⟨⟨⟩, hcheck, h⟩
    · exact .inl ⟨e, congrArg _ h⟩
    · exact .inr ⟨_, .txEnable ((exclusiveWith_ok_iff .rx s).mp hcheck), congrArg _ h⟩
  | rxEnable =>
    rcases command_cases (exclusiveWith .tx s) (fun _ => enableRx) s with ⟨e, -, h⟩ | ⟨⟨⟩, hcheck, h⟩
    · exact .inl ⟨e, congrArg _ h⟩
    · exact .inr ⟨_, .rxEnable ((exclusiveWith_ok_iff .tx s).mp hcheck), congrArg _ h⟩
  | send =>
    rcases command_cases (sendCheck Config.protocols s) acceptSend s with ⟨e, -, h⟩ | ⟨p, hcheck, h⟩
    · exact .inl ⟨e, congrArg _ h⟩
    · exact .inr ⟨_, .send p hcheck, congrArg _ h⟩
  | encLogic0 =>
    rcases encCommand_cases Config.protocols .logic0 s with ⟨e, h⟩ | ⟨w, h⟩
    · exact .inl ⟨e, congrArg _ h⟩
    · exact .inr ⟨_, .encLogic0 w, congrArg _ h⟩
  | encLogic1 =>
    rcases encCommand_cases Config.protocols .logic1 s with ⟨e, h⟩ | ⟨w, h⟩
    · exact .inl ⟨e, congrArg _ h⟩
    · exact .inr ⟨_, .encLogic1 w, congrArg _ h⟩
  | encSync =>
    rcases encCommand_cases Config.protocols .sync s with ⟨e, h⟩ | ⟨w, h⟩
    · exact .inl ⟨e, congrArg _ h⟩
    · exact .inr ⟨_, .encSync w, congrArg _ h⟩

theorem exec_toInstr (c : Command) (s : State) : exec c.toInstr s = runCommand Config.protocols c s := by
  rw [runCommand_eq_execUnder, execUnder_default]

theorem exec_regWrite_cmd (w : Word) (s : State) : exec (.regWrite .cmd w) s = writeCmd Config.protocols w s := rfl

theorem exec_regWrite_of_ne_cmd {slot : Slot} (hslot : slot ≠ .cmd) (v : Word) (s : State) :
    exec (.regWrite slot v) s = .next { s with regs := storeSlot slot v s.regs } := by
  show execRegWriteUnder Config.protocols slot v s = _
  rw [execRegWriteUnder, if_neg hslot]

theorem writeCmd_of_some {tbl : ProtocolTable} {w : Word} {c : Command} (h : decodeCommand w = some c) (s : State) :
    writeCmd tbl w s = runCommand tbl c s := by
  simp only [writeCmd, h]

theorem writeCmd_of_none {tbl : ProtocolTable} {w : Word} (h : decodeCommand w = none) (s : State) :
    writeCmd tbl w s = .next (raise .illegalCommand s) := by
  simp only [writeCmd, h]
  rfl

theorem instrEffect_of_runCommand {i : Instr} {c : Command} {s t : State}
    (hi : i = c.toInstr ∨ i = .regWrite .cmd c.word) (h : runCommand Config.protocols c s = .next t) :
    InstrEffect s i t := by
  rcases runCommand_cases c s with ⟨e, heq⟩ | ⟨u, hu, heq⟩
  · cases heq.symm.trans h
    exact .rejected i e
  · cases heq.symm.trans h
    exact .accepted hi hu

theorem instrEffect_of_exec_toInstr {c : Command} {s t : State} (h : exec c.toInstr s = .next t) :
    InstrEffect s c.toInstr t :=
  instrEffect_of_runCommand (.inl rfl) ((exec_toInstr c s).symm.trans h)

theorem instrEffect_of_exec_regWrite {slot : Slot} {v : Word} {s t : State}
    (h : exec (.regWrite slot v) s = .next t) : InstrEffect s (.regWrite slot v) t := by
  by_cases hslot : slot = .cmd
  · subst hslot
    rw [exec_regWrite_cmd] at h
    cases hc : decodeCommand v with
    | none =>
      cases (writeCmd_of_none hc s).symm.trans h
      exact .rejected _ _
    | some c =>
      rw [writeCmd_of_some hc] at h
      exact instrEffect_of_runCommand (.inr (by rw [word_eq_of_decodeCommand hc])) h
  · cases (exec_regWrite_of_ne_cmd hslot v s).symm.trans h
    exact .regWrite slot v hslot

/-- Every instruction's outcome is one of the named effects. -/
theorem instrEffect_of_exec {i : Instr} {s t : State} (h : exec i s = .next t) : InstrEffect s i t := by
  cases i with
  | nop => exact instrEffect_of_exec_toInstr (c := .nop) h
  | txEnable => exact instrEffect_of_exec_toInstr (c := .txEnable) h
  | txDisable => exact instrEffect_of_exec_toInstr (c := .txDisable) h
  | rxEnable => exact instrEffect_of_exec_toInstr (c := .rxEnable) h
  | rxDisable => exact instrEffect_of_exec_toInstr (c := .rxDisable) h
  | send => exact instrEffect_of_exec_toInstr (c := .send) h
  | cleanup => exact instrEffect_of_exec_toInstr (c := .cleanup) h
  | encLogic0 => exact instrEffect_of_exec_toInstr (c := .encLogic0) h
  | encLogic1 => exact instrEffect_of_exec_toInstr (c := .encLogic1) h
  | encSync => exact instrEffect_of_exec_toInstr (c := .encSync) h
  | regRead slot =>
    cases h
    exact .regRead slot
  | regWrite slot v => exact instrEffect_of_exec_regWrite h
  | edge ts =>
    cases h
    exact .edge ts

/-- Everything an operation can do: run an instruction, report an illegal word, or one of the two internal operations. -/
theorem perform_cases {op : Op} {s t : State} (h : perform op s = .next t) :
    (∃ i, InstrEffect s i t) ∨ t = processEdge s ∨ t = segmentStep s := by
  cases op with
  | process =>
    cases h
    exact .inr (.inl rfl)
  | segStep =>
    cases h
    exact .inr (.inr rfl)
  | port c =>
    have hport : present c s = .next t := h
    rcases present_cases c s with ⟨i, -, heq⟩ | ⟨w, -, heq⟩
    · exact .inl ⟨i, instrEffect_of_exec (heq.symm.trans hport)⟩
    · cases heq.symm.trans hport
      exact .inl ⟨.nop, .rejected _ _⟩

/-! ### Effects case by case (40_host_interface.md R95, R97, R98, 42_transmitter.md R125, 44_decoder.md R154) -/

theorem enableTx_cases (s : State) :
    (s.status.mode = .off ∧
        enableTx s =
          { s with
            pins := { s.pins with out := .low, dir := .output }
            status := { s.status with mode := .tx } }) ∨
      (s.status.mode ≠ .off ∧ enableTx s = s) := by
  unfold enableTx
  by_cases hm : s.status.mode = .off
  · exact .inl ⟨hm, if_pos hm⟩
  · exact .inr ⟨hm, if_neg hm⟩

theorem enableRx_cases (s : State) :
    (s.status.mode = .off ∧
        enableRx s =
          { s with
            pins := { s.pins with dir := .input, edgeEn := true }
            status := { s.status with mode := .rx, rxOvf := false } }) ∨
      (s.status.mode ≠ .off ∧ enableRx s = { s with status := { s.status with rxOvf := false } }) := by
  unfold enableRx
  by_cases hm : s.status.mode = .off
  · exact .inl ⟨hm, by simp [hm]⟩
  · exact .inr ⟨hm, by simp [hm]⟩

theorem disableRx_cases (s : State) :
    (s.status.mode = .rx ∧
        disableRx s =
          { s with
            pins := { s.pins with edgeEn := false }
            efifo := []
            status := { s.status with mode := .off } }) ∨
      (s.status.mode ≠ .rx ∧ disableRx s = s) := by
  unfold disableRx
  by_cases hm : s.status.mode = .rx
  · exact .inl ⟨hm, if_pos hm⟩
  · exact .inr ⟨hm, if_neg hm⟩

/-- An accepted SEND: an empty train starts nothing, else its first segment begins. -/
theorem acceptSend_cases (p : Protocol) (s : State) :
    (acceptSend p s =
        { clearAbort (latchOperands s) with tx := { (latchOperands s).tx with cur := none, rest := [] } }) ∨
      (∃ g rest, trainOf p s.regs = g :: rest ∧
        acceptSend p s =
          { beginSegment g rest (clearAbort (latchOperands s)) with
            status := { (clearAbort s).status with busy := true } }) := by
  rcases startTrain_cases (trainOf p s.regs) (clearAbort (latchOperands s)) with ⟨-, h⟩ | ⟨g, rest, htrain, h⟩
  · exact .inl h
  · exact .inr ⟨g, rest, htrain, h⟩

/-- Processing with the decoder's step taken apart: its state and its result, if any, to publish. -/
theorem processEdge_publishes (s : State) :
    processEdge s = s ∨
      ∃ ts rest d r, s.efifo = ts :: rest ∧
        decoderStep Config.protocols s.regs.tolPct.toNat ts s.decoder = (d, r) ∧
        processEdge s = publishIfAny r { s with efifo := rest, decoder := d } := by
  rcases processEdge_cases s with ⟨-, h⟩ | ⟨ts, rest, hfifo, h⟩
  · exact .inl h
  · exact .inr ⟨ts, rest, _, _, hfifo, rfl, h⟩

end Sys2Proof.Machine

namespace Sys2Proof.Machine

/-! ### The trace only grows (10_state.md R49, 42_transmitter.md R136) -/

theorem CommandEffect.trace_prefix {s u : State} {c : Command} (hu : CommandEffect s c u) : s.trace <+: u.trace := by
  cases hu with
  | nop | encLogic0 | encLogic1 | encSync => exact List.prefix_rfl
  | txEnable => rcases enableTx_cases s with ⟨-, h⟩ | ⟨-, h⟩ <;> simp [h]
  | rxEnable => rcases enableRx_cases s with ⟨-, h⟩ | ⟨-, h⟩ <;> simp [h]
  | rxDisable => rcases disableRx_cases s with ⟨-, h⟩ | ⟨-, h⟩ <;> simp [h]
  | txDisable => rcases disableTx_cases s with ⟨-, h⟩ | ⟨-, -, h⟩ | ⟨-, -, h⟩ <;> simp [h]
  | send p => rcases acceptSend_cases p s with h | ⟨g, rest, -, h⟩ <;> simp [h]
  | cleanup => rcases cleanUp_cases s with ⟨-, -, h⟩ | ⟨-, h⟩ <;> simp [h]

theorem captureEdge_trace (ts : Word) (s : State) : (captureEdge ts s).trace = s.trace := by
  rcases captureEdge_cases ts s with ⟨-, h⟩ | ⟨-, -, h⟩ | ⟨-, -, h⟩ <;> rw [h]

theorem InstrEffect.trace_prefix {s t : State} {i : Instr} (h : InstrEffect s i t) : s.trace <+: t.trace := by
  cases h with
  | rejected | regRead | regWrite => exact List.prefix_rfl
  | accepted _ hu => exact hu.trace_prefix
  | edge ts => rw [captureEdge_trace]

theorem publishIfAny_trace (r : Option DecodedResult) (s : State) : (publishIfAny r s).trace = s.trace := by
  cases r <;> rfl

theorem processEdge_trace (s : State) : (processEdge s).trace = s.trace := by
  rcases processEdge_publishes s with h | ⟨ts, rest, d, r, -, -, h⟩
  · rw [h]
  · rw [h, publishIfAny_trace]

theorem segmentStep_trace_prefix (s : State) : s.trace <+: (segmentStep s).trace := by
  rcases segmentStep_cases s with h | ⟨g, next, rest, -, -, -, -, h⟩ | ⟨g, -, -, -, -, h⟩ <;> simp [h]

theorem perform_trace_prefix {op : Op} {s t : State} (h : perform op s = .next t) : s.trace <+: t.trace := by
  rcases perform_cases h with ⟨i, hi⟩ | rfl | rfl
  · exact hi.trace_prefix
  · rw [processEdge_trace]
  · exact segmentStep_trace_prefix s

/-- Settles O39: with reset released a step performs its operation, and every operation only appends. -/
theorem theTraceOnlyGrows : Obligations.TheTraceOnlyGrows := by
  intro s t e rest hpending hrst hstep
  rcases step_cases s with ⟨hnil, -⟩ | ⟨e', rest', hcons, hreset, -⟩ | ⟨e', rest', -, -, heq⟩
  · simp [hpending] at hnil
  · rw [hpending] at hcons
    obtain ⟨rfl, rfl⟩ := List.cons.inj hcons
    simp [hrst] at hreset
  · have hprefix := perform_trace_prefix (heq.symm.trans hstep)
    exact hprefix

/-! ### The sticky flags (10_state.md R53) -/

/-- What a command leaves of the flags before it reports OK. -/
theorem CommandEffect.flags {s u : State} {c : Command} (hu : CommandEffect s c u) :
    u.status.rxValid = s.status.rxValid ∧ (c ≠ .rxEnable → u.status.rxOvf = s.status.rxOvf) ∧
      (c ≠ .send → s.status.txAbort = true → u.status.txAbort = true) := by
  cases hu with
  | nop | encLogic0 | encLogic1 | encSync => exact ⟨rfl, fun _ => rfl, fun _ hs => hs⟩
  | txEnable => rcases enableTx_cases s with ⟨-, h⟩ | ⟨-, h⟩ <;> simp [h]
  | rxEnable => rcases enableRx_cases s with ⟨-, h⟩ | ⟨-, h⟩ <;> simp [h]
  | rxDisable => rcases disableRx_cases s with ⟨-, h⟩ | ⟨-, h⟩ <;> simp [h]
  | txDisable => rcases disableTx_cases s with ⟨-, h⟩ | ⟨-, -, h⟩ | ⟨-, -, h⟩ <;> simp [h]
  | send p => rcases acceptSend_cases p s with h | ⟨g, rest, -, h⟩ <;> simp [h]
  | cleanup => rcases cleanUp_cases s with ⟨-, -, h⟩ | ⟨-, h⟩ <;> simp [h]

theorem captureEdge_flags (ts : Word) (s : State) :
    (captureEdge ts s).status.rxValid = s.status.rxValid ∧
      (s.status.rxOvf = true → (captureEdge ts s).status.rxOvf = true) ∧
      (captureEdge ts s).status.txAbort = s.status.txAbort := by
  rcases captureEdge_cases ts s with ⟨-, h⟩ | ⟨-, -, h⟩ | ⟨-, -, h⟩ <;> simp [h]

theorem InstrEffect.rxValid_eq {s t : State} {i : Instr} (h : InstrEffect s i t) :
    t.status.rxValid = s.status.rxValid := by
  cases h with
  | rejected | regRead | regWrite => rfl
  | accepted _ hu => exact hu.flags.1
  | edge ts => exact (captureEdge_flags ts s).1

theorem not_cleared_of_set {b : Bool} (hset : b = true) (hclear : b = false) : False :=
  Bool.false_ne_true (hclear.symm.trans hset)

/-- RX_OVF is cleared by an RX_ENABLE that the other mode does not forbid. -/
theorem InstrEffect.rxOvf_cleared {s t : State} {i : Instr} (h : InstrEffect s i t) (hs : s.status.rxOvf = true)
    (ht : t.status.rxOvf = false) : (i = .rxEnable ∨ i = .regWrite .cmd 0x3#32) ∧ s.status.mode ≠ .tx := by
  cases h with
  | rejected | regRead | regWrite => exact (not_cleared_of_set hs ht).elim
  | @accepted _ c u hi hu =>
    by_cases hc : c = .rxEnable
    · subst hc
      cases hu with
      | rxEnable hmode => exact ⟨hi, hmode⟩
    · obtain ⟨-, hkept, -⟩ := hu.flags
      exact (not_cleared_of_set ((hkept hc).trans hs) ht).elim
  | edge ts =>
    obtain ⟨-, hstays, -⟩ := captureEdge_flags ts s
    exact (not_cleared_of_set (hstays hs) ht).elim

/-- TX_ABORT is cleared by a SEND that passed its checks, which then reports OK. -/
theorem InstrEffect.txAbort_cleared {s t : State} {i : Instr} (h : InstrEffect s i t) (hs : s.status.txAbort = true)
    (ht : t.status.txAbort = false) : (i = .send ∨ i = .regWrite .cmd 0x5#32) ∧ t.status.err = .ok := by
  cases h with
  | rejected | regRead | regWrite => exact (not_cleared_of_set hs ht).elim
  | @accepted _ c u hi hu =>
    by_cases hc : c = .send
    · subst hc
      exact ⟨hi, rfl⟩
    · obtain ⟨-, -, hstays⟩ := hu.flags
      exact (not_cleared_of_set (hstays hc hs) ht).elim
  | edge ts =>
    obtain ⟨-, -, hkept⟩ := captureEdge_flags ts s
    exact (not_cleared_of_set (hkept.trans hs) ht).elim

theorem publishIfAny_flags (r : Option DecodedResult) (s : State) :
    (s.status.rxValid = true → (publishIfAny r s).status.rxValid = true) ∧
      (publishIfAny r s).status.rxOvf = s.status.rxOvf ∧ (publishIfAny r s).status.txAbort = s.status.txAbort := by
  cases r with
  | none => exact ⟨id, rfl, rfl⟩
  | some r => exact ⟨fun _ => rfl, rfl, rfl⟩

theorem processEdge_flags (s : State) :
    (s.status.rxValid = true → (processEdge s).status.rxValid = true) ∧
      (processEdge s).status.rxOvf = s.status.rxOvf ∧ (processEdge s).status.txAbort = s.status.txAbort := by
  rcases processEdge_publishes s with h | ⟨ts, rest, d, r, -, -, h⟩
  · rw [h]
    exact ⟨id, rfl, rfl⟩
  · rw [h]
    exact publishIfAny_flags r { s with efifo := rest, decoder := d }

theorem segmentStep_flags (s : State) :
    (segmentStep s).status.rxValid = s.status.rxValid ∧ (segmentStep s).status.rxOvf = s.status.rxOvf ∧
      (segmentStep s).status.txAbort = s.status.txAbort := by
  rcases segmentStep_cases s with h | ⟨g, next, rest, -, -, -, -, h⟩ | ⟨g, -, -, -, -, h⟩ <;> simp [h]

/-- Settles O26, from what each instruction and each internal operation does to the three flags. -/
theorem stickyFlagsStayUntilTheirOwnCommand : Obligations.StickyFlagsStayUntilTheirOwnCommand := by
  refine ⟨fun i s t hexec => ?_, fun s => ?_⟩
  · have heffect := instrEffect_of_exec hexec
    exact ⟨heffect.rxValid_eq, heffect.rxOvf_cleared, heffect.txAbort_cleared⟩
  · obtain ⟨hvalid, hovf, habort⟩ := processEdge_flags s
    exact ⟨hvalid, hovf, habort, segmentStep_flags s⟩

/-! ### The decoder is hidden from the host (10_state.md R54) -/

/-- The same state around another decoder. -/
def State.withDecoder (d : Decoder) (s : State) : State := { s with decoder := d }

theorem command_withDecoder {α : Type} (check : Except ErrCode α) {effect : α → State → State} {s : State}
    {d : Decoder} (heffect : ∀ a, effect a (s.withDecoder d) = (effect a s).withDecoder d) :
    command check effect (s.withDecoder d) = (command check effect s).withDecoder d := by
  cases check with
  | error e => rfl
  | ok a => exact congrArg succeed (heffect a)

theorem enableTx_withDecoder (d : Decoder) (s : State) :
    enableTx (s.withDecoder d) = (enableTx s).withDecoder d := by
  by_cases hm : s.status.mode = .off <;> simp [enableTx, State.withDecoder, hm]

theorem enableRx_withDecoder (d : Decoder) (s : State) :
    enableRx (s.withDecoder d) = (enableRx s).withDecoder d := by
  by_cases hm : s.status.mode = .off <;> simp [enableRx, State.withDecoder, hm]

theorem disableRx_withDecoder (d : Decoder) (s : State) :
    disableRx (s.withDecoder d) = (disableRx s).withDecoder d := by
  by_cases hm : s.status.mode = .rx <;> simp [disableRx, State.withDecoder, hm]

theorem abortIfBusy_withDecoder (d : Decoder) (s : State) :
    abortIfBusy (s.withDecoder d) = (abortIfBusy s).withDecoder d := by
  by_cases hb : s.status.busy = true <;> simp [abortIfBusy, abortSend, State.withDecoder, hb]

theorem disableTx_withDecoder (d : Decoder) (s : State) :
    disableTx (s.withDecoder d) = (disableTx s).withDecoder d := by
  by_cases hm : s.status.mode = .tx
  · simp only [disableTx, abortIfBusy_withDecoder]
    simp [State.withDecoder, hm]
  · simp [disableTx, State.withDecoder, hm]

theorem cleanUp_withDecoder (d : Decoder) (s : State) :
    cleanUp (s.withDecoder d) = (cleanUp s).withDecoder d := by
  by_cases hm : s.status.mode = .tx
  · simp only [cleanUp, abortIfBusy_withDecoder]
    simp [State.withDecoder, releasePin, allOff, hm]
  · simp [cleanUp, State.withDecoder, releasePin, allOff, hm]

theorem startTrain_withDecoder (d : Decoder) (train : List Segment) (s : State) :
    startTrain train (s.withDecoder d) = (startTrain train s).withDecoder d := by
  cases train <;> rfl

theorem acceptSend_withDecoder (d : Decoder) (p : Protocol) (s : State) :
    acceptSend p (s.withDecoder d) = (acceptSend p s).withDecoder d :=
  startTrain_withDecoder d (trainOf p s.regs) (clearAbort (latchOperands s))

theorem encCommand_withDecoder (d : Decoder) (tbl : ProtocolTable) (sym : Symbol) (s : State) :
    encCommand tbl sym (s.withDecoder d) = (encCommand tbl sym s).withDecoder d :=
  command_withDecoder (encCheck tbl s) fun _ => rfl

theorem captureEdge_withDecoder (d : Decoder) (ts : Word) (s : State) :
    captureEdge ts (s.withDecoder d) = (captureEdge ts s).withDecoder d := by
  by_cases hm : s.status.mode = .rx
  · by_cases hf : s.efifo.length = Config.edgeFifoDepth <;> simp [captureEdge, State.withDecoder, hm, hf]
  · simp [captureEdge, State.withDecoder, hm]

/-- Two outcomes are the same next state but for the decoder, which the second has as given. -/
def NextWithDecoder (d : Decoder) (o o' : Host.Outcome State Fault Refusal) : Prop :=
  ∃ t, o = .next t ∧ o' = .next (State.withDecoder d t)

theorem nextWithDecoder_of_eq {d : Decoder} {t t' : State} (h : t' = t.withDecoder d) :
    NextWithDecoder d (.next t) (.next t') :=
  ⟨t, rfl, congrArg _ h⟩

theorem runCommand_withDecoder (d : Decoder) (c : Command) (s : State) :
    NextWithDecoder d (runCommand Config.protocols c s) (runCommand Config.protocols c (s.withDecoder d)) := by
  cases c with
  | nop => exact nextWithDecoder_of_eq rfl
  | txEnable =>
    exact nextWithDecoder_of_eq (command_withDecoder (exclusiveWith .rx s) fun _ => enableTx_withDecoder d s)
  | txDisable => exact nextWithDecoder_of_eq (congrArg succeed (disableTx_withDecoder d s))
  | rxEnable =>
    exact nextWithDecoder_of_eq (command_withDecoder (exclusiveWith .tx s) fun _ => enableRx_withDecoder d s)
  | rxDisable => exact nextWithDecoder_of_eq (congrArg succeed (disableRx_withDecoder d s))
  | send =>
    exact nextWithDecoder_of_eq
      (command_withDecoder (sendCheck Config.protocols s) fun p => acceptSend_withDecoder d p s)
  | cleanup => exact nextWithDecoder_of_eq (congrArg succeed (cleanUp_withDecoder d s))
  | encLogic0 => exact nextWithDecoder_of_eq (encCommand_withDecoder d Config.protocols .logic0 s)
  | encLogic1 => exact nextWithDecoder_of_eq (encCommand_withDecoder d Config.protocols .logic1 s)
  | encSync => exact nextWithDecoder_of_eq (encCommand_withDecoder d Config.protocols .sync s)

theorem exec_regWrite_withDecoder (d : Decoder) (slot : Slot) (v : Word) (s : State) :
    NextWithDecoder d (exec (.regWrite slot v) s) (exec (.regWrite slot v) (s.withDecoder d)) := by
  by_cases hslot : slot = .cmd
  · subst hslot
    simp only [exec_regWrite_cmd]
    cases hc : decodeCommand v with
    | none =>
      simp only [writeCmd_of_none hc]
      exact nextWithDecoder_of_eq rfl
    | some c =>
      simp only [writeCmd_of_some hc]
      exact runCommand_withDecoder d c s
  · simp only [exec_regWrite_of_ne_cmd hslot]
    exact nextWithDecoder_of_eq rfl

theorem slotValue_withDecoder (d : Decoder) (slot : Slot) (s : State) :
    slotValue (s.withDecoder d) slot = slotValue s slot := by
  cases slot <;> rfl

theorem exec_withDecoder (d : Decoder) (i : Instr) (s : State) :
    NextWithDecoder d (exec i s) (exec i (s.withDecoder d)) := by
  cases i with
  | nop => exact runCommand_withDecoder d .nop s
  | txEnable => exact runCommand_withDecoder d .txEnable s
  | txDisable => exact runCommand_withDecoder d .txDisable s
  | rxEnable => exact runCommand_withDecoder d .rxEnable s
  | rxDisable => exact runCommand_withDecoder d .rxDisable s
  | send => exact runCommand_withDecoder d .send s
  | cleanup => exact runCommand_withDecoder d .cleanup s
  | encLogic0 => exact runCommand_withDecoder d .encLogic0 s
  | encLogic1 => exact runCommand_withDecoder d .encLogic1 s
  | encSync => exact runCommand_withDecoder d .encSync s
  | regRead slot =>
    exact nextWithDecoder_of_eq (congrArg (driveRdata · (s.withDecoder d)) (slotValue_withDecoder d slot s))
  | regWrite slot v => exact exec_regWrite_withDecoder d slot v s
  | edge ts => exact nextWithDecoder_of_eq (captureEdge_withDecoder d ts s)

/-- Settles O53: every operation that an instruction is made of commutes with exchanging the decoder. -/
theorem theDecoderIsHiddenFromTheHost : Obligations.TheDecoderIsHiddenFromTheHost := by
  intro i s t d hexec
  obtain ⟨t', ht', hwith⟩ := exec_withDecoder d i s
  cases ht'.symm.trans hexec
  exact hwith

end Sys2Proof.Machine

namespace Sys2Proof.Machine

/-! ### What the decoder keeps and publishes (10_state.md R43, R44, R50, 44_decoder.md R166 to R179) -/

theorem syncTest_countsOk (tbl : ProtocolTable) (pct : Nat) (ts dur : Word) {d : Decoder} (h : d.CountsOk) :
    (syncTest tbl pct ts dur d).1.CountsOk := by
  obtain ⟨hchange, hrepeat⟩ := h
  rcases syncTest_cases tbl pct ts dur d with ⟨-, heq⟩ | ⟨-, -, heq⟩ | ⟨-, -, hne, heq⟩ | ⟨-, -, -, heq⟩ <;> rw [heq]
  · exact ⟨hchange, hrepeat⟩
  · exact ⟨Nat.zero_le _, hrepeat⟩
  · exact ⟨Nat.zero_le _, by show d.repeatCount + 1 ≤ 1; omega⟩
  · exact ⟨Nat.zero_le _, Nat.zero_le _⟩

/-- The overflow test leaves room for one more entry. -/
theorem storeDuration_overflowTest_countsOk (dur : Word) {d : Decoder} (h : d.CountsOk) :
    (storeDuration dur (overflowTest d)).CountsOk := by
  obtain ⟨-, hrepeat⟩ := h
  rcases overflowTest_cases d with ⟨hlt, heq⟩ | ⟨-, heq⟩ <;> rw [heq]
  · exact ⟨hlt, hrepeat⟩
  · exact ⟨show 0 + 1 ≤ 68 by decide, Nat.zero_le _⟩

theorem decoderStep_countsOk (tbl : ProtocolTable) (pct : Nat) (ts : Word) {d : Decoder} (h : d.CountsOk) :
    (decoderStep tbl pct ts d).1.CountsOk :=
  storeDuration_overflowTest_countsOk _ (syncTest_countsOk tbl pct ts _ (d := { d with lastTs := ts }) h)

theorem accumulate_lt {acc k : Nat} (c : PairClass) (h : acc < 2 ^ (k + 1)) : accumulate acc c < 2 ^ (k + 2) := by
  have hpow : 2 ^ (k + 2) = 2 ^ (k + 1) * 2 := Nat.pow_succ 2 (k + 1)
  cases c with
  | bit0 =>
    rw [accumulate, Nat.shiftLeft_eq]
    omega
  | bit1 =>
    have hor : acc ||| 1 < 2 ^ (k + 1) := Nat.or_lt_two_pow h (Nat.one_lt_two_pow (Nat.succ_ne_zero k))
    rw [accumulate, Nat.shiftLeft_eq]
    omega
  | invalid => exact Nat.two_pow_pos _

/-- R170's accumulator holds one bit per pair and one more. -/
theorem accAfter_lt (d : Decoder) (p : Protocol) (pct k : Nat) : accAfter d p pct k < 2 ^ (k + 1) := by
  induction k with
  | zero => exact Nat.two_pow_pos _
  | succ k ih => exact accumulate_lt _ ih

theorem attemptCode_lt (d : Decoder) (p : Protocol) (pct n : Nat) : attemptCode d p pct n < 2 ^ (n / 2) := by
  have hacc := accAfter_lt d p pct (n / 2)
  rw [attemptCode, Nat.shiftRight_eq_div_pow]
  omega

theorem attempt_eq_some_iff (d : Decoder) (pct n : Nat) (ts : Word) (id : Nat) (p : Protocol) (r : DecodedResult) :
    attempt d pct n ts id p = some r ↔
      6 < n ∧ attemptCode d p pct n ≠ 0 ∧ r = ⟨attemptCode d p pct n, n / 2, id, ts, unitEstimate d p⟩ := by
  unfold attempt Config.minChanges
  by_cases h : n > 6 ∧ attemptCode d p pct n ≠ 0
  · rw [if_pos h, Option.some_inj]
    exact ⟨fun heq => ⟨h.1, h.2, heq.symm⟩, fun ⟨_, _, heq⟩ => heq.symm⟩
  · rw [if_neg h]
    exact ⟨fun hnone => absurd hnone (by simp), fun ⟨hn, hcode, _⟩ => absurd ⟨hn, hcode⟩ h⟩

/-- What decode finds is the success of some entry of the table. -/
theorem exists_attempt_of_decodeWindow {tbl : ProtocolTable} {d : Decoder} {pct n : Nat} {ts : Word}
    {r : DecodedResult} (h : decodeWindow tbl d pct n ts = some r) :
    ∃ id p, (id, p) ∈ tbl ∧ attempt d pct n ts id p = some r := by
  induction tbl with
  | nil => cases h
  | cons e rest ih =>
    obtain ⟨id, p⟩ := e
    cases ha : attempt d pct n ts id p with
    | some r' =>
      simp only [decodeWindow, ha, Option.some_inj] at h
      exact ⟨id, p, List.mem_cons_self, ha.trans (congrArg some h)⟩
    | none =>
      simp only [decodeWindow, ha] at h
      obtain ⟨id', p', hmem, hr⟩ := ih h
      exact ⟨id', p', List.mem_cons_of_mem _ hmem, hr⟩

/-- A result as R179 bounds it, under an identifier of the table. -/
def DecodedResult.InRange (tbl : ProtocolTable) (r : DecodedResult) : Prop :=
  r.code ≠ 0 ∧ r.code < 2 ^ 33 ∧ 3 ≤ r.bitLength ∧ r.bitLength ≤ 33 ∧ ∃ p, (r.protocol, p) ∈ tbl

theorem decodeWindow_inRange {tbl : ProtocolTable} {d : Decoder} {pct n : Nat} {ts : Word} {r : DecodedResult}
    (hn : n ≤ 67) (h : decodeWindow tbl d pct n ts = some r) : r.InRange tbl := by
  obtain ⟨id, p, hmem, hr⟩ := exists_attempt_of_decodeWindow h
  obtain ⟨hmin, hcode, rfl⟩ := (attempt_eq_some_iff d pct n ts id p r).mp hr
  have hbits : n / 2 ≤ 33 := by omega
  have hlt : attemptCode d p pct n < 2 ^ 33 :=
    (attemptCode_lt d p pct n).trans_le (Nat.pow_le_pow_right Nat.two_pos hbits)
  exact ⟨hcode, hlt, by show 3 ≤ n / 2; omega, hbits, p, hmem⟩

/-- A decode sees at most 67 entries, since the gap itself is not among them (R161, R169). -/
theorem decoderStep_inRange {tbl : ProtocolTable} {pct : Nat} {ts : Word} {d : Decoder} {r : DecodedResult}
    (hd : d.CountsOk) (h : (decoderStep tbl pct ts d).2 = some r) : r.InRange tbl := by
  obtain ⟨hchange, -⟩ := hd
  have hwindow : d.changeCount - 1 ≤ 67 := Nat.sub_le_of_le_add hchange
  have hsync : (syncTest tbl pct ts (eventDuration ts d) { d with lastTs := ts }).2 = some r := h
  rcases syncTest_cases tbl pct ts (eventDuration ts d) { d with lastTs := ts } with
    ⟨-, heq⟩ | ⟨-, -, heq⟩ | ⟨-, -, -, heq⟩ | ⟨-, -, -, heq⟩ <;> rw [heq] at hsync
  · cases hsync
  · cases hsync
  · cases hsync
  · exact decodeWindow_inRange hwindow hsync

/-! ### Idle states

While no train runs the invariants come down to the mode's: its pins and its queue. -/

/-- Nothing on the pin, nothing left to send. -/
def State.Idle (s : State) : Prop :=
  s.status.busy = false ∧ s.tx.cur = none ∧ s.tx.rest = [] ∧ s.pins.out = .low

/-- The pin's direction, the edges wanted and the edges waiting, as the mode says. -/
def State.ModeOk (s : State) : Prop :=
  (s.pins.dir = .output ↔ s.status.mode = .tx) ∧ (s.pins.edgeEn = true ↔ s.status.mode = .rx) ∧
    (s.status.mode ≠ .rx → s.efifo = []) ∧ s.efifo.length ≤ Config.edgeFifoDepth

theorem State.Inv.modeOk {s : State} (h : s.Inv) : s.ModeOk := by
  obtain ⟨-, ⟨-, -, hfifo, hdepth⟩, ⟨hdir, hedge, -, -⟩, -, -, -⟩ := h
  exact ⟨hdir, hedge, hfifo, hdepth⟩

theorem State.Inv.idle_of_not_busy {s : State} (h : s.Inv) (hbusy : s.status.busy = false) : s.Idle := by
  obtain ⟨-, ⟨-, hnone, -, -⟩, ⟨-, -, -, hlow⟩, -, -, -⟩ := h
  obtain ⟨hcur, hrest⟩ := hnone hbusy
  exact ⟨hbusy, hcur, hrest, hlow hcur⟩

theorem State.Inv.idle_of_mode_ne_tx {s : State} (h : s.Inv) (hmode : s.status.mode ≠ .tx) : s.Idle := by
  obtain ⟨-, ⟨hbusy, -, -, -⟩, -, -, -, -⟩ := id h
  exact h.idle_of_not_busy (Bool.eq_false_iff.mpr fun hb => hmode (hbusy hb).1)

theorem State.Idle.inv {s : State} (hidle : s.Idle) (hmode : s.ModeOk) (hcounts : s.decoder.CountsOk)
    (hreserved : s.ReservedOk) (hresult : s.ResultOk) : s.Inv := by
  obtain ⟨hbusy, hcur, hrest, hout⟩ := hidle
  obtain ⟨hdir, hedge, hfifo, hdepth⟩ := hmode
  refine ⟨hcounts, ⟨?_, fun _ => ⟨hcur, hrest⟩, hfifo, hdepth⟩, ⟨hdir, hedge, ?_, fun _ => hout⟩, hreserved, ?_,
    hresult⟩
  · intro hb
    exact (not_cleared_of_set hb hbusy).elim
  · intro g hg
    rw [hcur] at hg
    cases hg
  · intro hb
    exact (not_cleared_of_set hb hbusy).elim

/-- What an idle state must have besides, when it comes from one that meets the invariants by a change of mode alone. -/
theorem State.Idle.inv_of_same_data {s t : State} (hidle : t.Idle) (hmode : t.ModeOk) (h : s.Inv)
    (hdecoder : t.decoder = s.decoder) (hregs : t.regs = s.regs) (hresult : t.result = s.result)
    (hvalid : t.status.rxValid = s.status.rxValid) : t.Inv := by
  obtain ⟨hcounts, -, -, hreserved, -, hpublished⟩ := h
  refine hidle.inv hmode (hdecoder ▸ hcounts) ?_ ?_
  · unfold State.ReservedOk
    rw [hregs, hresult]
    exact hreserved
  · unfold State.ResultOk
    rw [hresult, hvalid]
    exact hpublished

theorem reset_inv : State.reset.Inv :=
  State.Idle.inv ⟨rfl, rfl, rfl, rfl⟩ ⟨by decide, by decide, fun _ => rfl, Nat.zero_le _⟩
    ⟨Nat.zero_le _, Nat.zero_le _⟩ ⟨by decide, by decide, by decide, by decide, by decide⟩ ⟨fun _ => rfl, by decide⟩

/-- Settles O57. -/
theorem theInvariantHoldsAtReset : Obligations.TheInvariantHoldsAtReset := reset_inv

/-! ### The commands keep the invariants -/

theorem raise_inv {e : ErrCode} {s : State} (h : s.Inv) : (raise e s).Inv := h

theorem succeed_inv {s : State} (h : s.Inv) : (succeed s).Inv := h

theorem modeOk_off {s : State} (hmode : s.status.mode = .off) (hdir : s.pins.dir = .input)
    (hedge : s.pins.edgeEn = false) (hfifo : s.efifo = []) : s.ModeOk := by
  simp [State.ModeOk, hmode, hdir, hedge, hfifo]

theorem enableTx_inv {s : State} (h : s.Inv) : (enableTx s).Inv := by
  rcases enableTx_cases s with ⟨hoff, heq⟩ | ⟨-, heq⟩ <;> rw [heq]
  · obtain ⟨hbusy, hcur, hrest, -⟩ := h.idle_of_mode_ne_tx (by simp [hoff])
    obtain ⟨-, hedge, hfifo, hdepth⟩ := h.modeOk
    refine State.Idle.inv_of_same_data ⟨hbusy, hcur, hrest, rfl⟩ ⟨by simp, ?_, ?_, hdepth⟩ h rfl rfl rfl rfl
    · simpa [hoff] using hedge
    · exact fun _ => hfifo (by simp [hoff])
  · exact h

theorem enableRx_inv {s : State} (h : s.Inv) : (enableRx s).Inv := by
  rcases enableRx_cases s with ⟨hoff, heq⟩ | ⟨-, heq⟩ <;> rw [heq]
  · have hidle := h.idle_of_mode_ne_tx (by simp [hoff])
    obtain ⟨-, -, -, hdepth⟩ := h.modeOk
    exact State.Idle.inv_of_same_data hidle ⟨by simp, by simp, by simp, hdepth⟩ h rfl rfl rfl rfl
  · exact h

theorem disableRx_inv {s : State} (h : s.Inv) : (disableRx s).Inv := by
  rcases disableRx_cases s with ⟨hrx, heq⟩ | ⟨-, heq⟩ <;> rw [heq]
  · have hidle := h.idle_of_mode_ne_tx (by simp [hrx])
    obtain ⟨hdir, -, -, -⟩ := h.modeOk
    refine State.Idle.inv_of_same_data hidle ⟨?_, by simp, fun _ => rfl, Nat.zero_le _⟩ h rfl rfl rfl rfl
    simpa [hrx] using hdir
  · exact h

theorem disableTx_inv {s : State} (h : s.Inv) : (disableTx s).Inv := by
  obtain ⟨-, hedge, hfifo, -⟩ := h.modeOk
  rcases disableTx_cases s with ⟨-, heq⟩ | ⟨htx, -, heq⟩ | ⟨htx, hbusy, heq⟩ <;> rw [heq]
  · exact h
  · exact State.Idle.inv_of_same_data ⟨rfl, rfl, rfl, rfl⟩ (modeOk_off rfl rfl (by simpa [htx] using hedge)
      (hfifo (by simp [htx]))) h rfl rfl rfl rfl
  · obtain ⟨-, hcur, hrest, -⟩ := h.idle_of_not_busy hbusy
    exact State.Idle.inv_of_same_data ⟨hbusy, hcur, hrest, rfl⟩ (modeOk_off rfl rfl (by simpa [htx] using hedge)
      (hfifo (by simp [htx]))) h rfl rfl rfl rfl

theorem cleanUp_inv {s : State} (h : s.Inv) : (cleanUp s).Inv := by
  rcases cleanUp_cases s with ⟨-, -, heq⟩ | ⟨hnot, heq⟩ <;> rw [heq]
  · exact State.Idle.inv_of_same_data ⟨rfl, rfl, rfl, rfl⟩ (modeOk_off rfl rfl rfl rfl) h
      rfl rfl rfl rfl
  · have hidle : s.Idle := by
      by_cases htx : s.status.mode = .tx
      · exact h.idle_of_not_busy (Bool.eq_false_iff.mpr fun hb => hnot ⟨htx, hb⟩)
      · exact h.idle_of_mode_ne_tx htx
    obtain ⟨hbusy, hcur, hrest, -⟩ := hidle
    exact State.Idle.inv_of_same_data ⟨hbusy, hcur, hrest, rfl⟩ (modeOk_off rfl rfl rfl rfl) h
      rfl rfl rfl rfl

theorem acceptSend_inv {p : Protocol} {s : State} (hcheck : sendCheck Config.protocols s = .ok p) (h : s.Inv) :
    (acceptSend p s).Inv := by
  obtain ⟨hbusy, htx, hw1, hw32, hpulse, hproto, hcode⟩ := (sendCheck_ok_iff _ s p).mp hcheck
  rcases acceptSend_cases p s with heq | ⟨g, rest, htrain, heq⟩ <;> rw [heq]
  · obtain ⟨-, -, -, hout⟩ := h.idle_of_not_busy hbusy
    exact State.Idle.inv_of_same_data ⟨hbusy, rfl, rfl, hout⟩ h.modeOk h rfl rfl rfl rfl
  · obtain ⟨hcounts, ⟨-, -, hfifo, hdepth⟩, ⟨hdir, hedge, -, -⟩, hreserved, -, hresult⟩ := h
    refine ⟨hcounts, ⟨fun _ => ⟨htx, by simp⟩, by simp, hfifo, hdepth⟩, ⟨hdir, hedge, ?_, by simp⟩, hreserved, ?_,
      hresult⟩
    · rintro g' ⟨⟩
      rfl
    · exact fun _ => ⟨hw1, hw32, hpulse, hcode, p, [], g, hproto, rfl, htrain⟩

theorem CommandEffect.inv {s u : State} {c : Command} (hu : CommandEffect s c u) (h : s.Inv) : u.Inv := by
  cases hu with
  | nop | encLogic0 | encLogic1 | encSync => exact h
  | txEnable => exact enableTx_inv h
  | txDisable => exact disableTx_inv h
  | rxEnable => exact enableRx_inv h
  | rxDisable => exact disableRx_inv h
  | send p hcheck => exact acceptSend_inv hcheck h
  | cleanup => exact cleanUp_inv h

/-! ### The other operations keep the invariants -/

/-- A plain write stores only defined bits (40_host_interface.md R91); the latched train does not see it. -/
theorem storeSlot_inv (slot : Slot) (v : Word) {s : State} (h : s.Inv) :
    State.Inv { s with regs := storeSlot slot v s.regs } := by
  obtain ⟨hcounts, hactivity, hpins, ⟨hcfg, hpulse, htol, hhi, hmeta⟩, htrain, hresult⟩ := h
  refine ⟨hcounts, hactivity, hpins, ?_, htrain, hresult⟩
  cases slot with
  | txCfg => exact ⟨and_and_eq_zero_of_disjoint v (by decide), hpulse, htol, hhi, hmeta⟩
  | txPulse => exact ⟨hcfg, and_and_eq_zero_of_disjoint v (by decide), htol, hhi, hmeta⟩
  | rxTol => exact ⟨hcfg, hpulse, and_and_eq_zero_of_disjoint v (by decide), hhi, hmeta⟩
  | cmd | status | txCode | rxCodeLo | rxCodeHi | rxMeta | rxUnit | rxTime | rxSeq | waveHigh | waveLow | unmapped38
  | unmapped3C => exact ⟨hcfg, hpulse, htol, hhi, hmeta⟩

theorem captureEdge_inv (ts : Word) {s : State} (h : s.Inv) : (captureEdge ts s).Inv := by
  rcases captureEdge_cases ts s with ⟨-, heq⟩ | ⟨-, -, heq⟩ | ⟨hrx, hroom, heq⟩ <;> rw [heq]
  · exact h
  · exact h
  · obtain ⟨hcounts, ⟨hbusy, hnone, -, hdepth⟩, hpins, hreserved, htrain, hresult⟩ := h
    refine ⟨hcounts, ⟨hbusy, hnone, fun hne => absurd hrx hne, ?_⟩, hpins, hreserved, htrain, hresult⟩
    rw [List.length_append]
    exact Nat.lt_of_le_of_ne hdepth hroom

theorem InstrEffect.inv {s t : State} {i : Instr} (heffect : InstrEffect s i t) (h : s.Inv) : t.Inv := by
  cases heffect with
  | rejected | regRead => exact h
  | accepted _ hu => exact succeed_inv (hu.inv h)
  | regWrite slot v => exact storeSlot_inv slot v h
  | edge ts => exact captureEdge_inv ts h

/-- A train moves on along the rest of the latched train, or ends (42_transmitter.md R133, R134). -/
theorem segmentStep_inv {s : State} (h : s.Inv) : (segmentStep s).Inv := by
  rcases segmentStep_cases s with heq | ⟨g, next, rest, hbusy, hcur, -, hrest, heq⟩ | ⟨g, -, -, -, hrest, heq⟩ <;>
    rw [heq]
  · exact h
  · obtain ⟨hcounts, ⟨htx, -, hfifo, hdepth⟩, ⟨hdir, hedge, -, -⟩, hreserved, htrain, hresult⟩ := h
    obtain ⟨hw1, hw32, hpulse, hcode, p, sent, g', hproto, hcur', hlatched⟩ := htrain hbusy
    refine ⟨hcounts, ⟨fun _ => ⟨(htx hbusy).1, by simp⟩, fun hb => (not_cleared_of_set hbusy hb).elim, hfifo, hdepth⟩,
      ⟨hdir, hedge, ?_, by simp⟩, hreserved, ?_, hresult⟩
    · rintro g'' ⟨⟩
      rfl
    · refine fun _ => ⟨hw1, hw32, hpulse, hcode, p, sent ++ [g'], next, hproto, rfl, ?_⟩
      rw [hrest] at hlatched
      rw [List.append_assoc, List.singleton_append]
      exact hlatched
  · exact State.Idle.inv_of_same_data ⟨rfl, rfl, hrest, rfl⟩ h.modeOk h rfl rfl rfl rfl

/-- A code below 2 ^ 33 that is not 0 shows in one of the two code registers. -/
theorem codeRegs_ne_zero {code : Nat} (hne : code ≠ 0) (hlt : code < 2 ^ 33) :
    BitVec.ofNat 32 code ≠ 0#32 ∨ 0#31 ++ BitVec.ofBool (code.testBit 32) ≠ 0#32 := by
  by_cases hbit : code.testBit 32 = true
  · right
    rw [hbit]
    decide
  · left
    intro hzero
    have hmod : code % 2 ^ 32 = 0 := congrArg BitVec.toNat hzero
    rw [Nat.testBit_eq_decide_div_mod_eq, decide_eq_true_eq] at hbit
    omega

theorem publish_resultOk {r : DecodedResult} (hr : r.InRange Config.protocols) (s : State) :
    (publish r s).ResultOk := by
  obtain ⟨hcode, hlt, h3, h33, p, hmem⟩ := hr
  refine ⟨by simp, fun _ => ⟨codeRegs_ne_zero hcode hlt, ?_⟩⟩
  rw [publish_result_metaWord, resultMeta_bitLength, resultMeta_protocol, BitVec.toNat_ofNat, BitVec.toNat_ofNat]
  have hid : r.protocol = 1 ∨ r.protocol = 2 := by
    simp only [Config.protocols, List.mem_cons, Prod.mk.injEq, List.not_mem_nil, or_false] at hmem
    exact hmem.imp And.left And.left
  refine ⟨by omega, by omega, ?_⟩
  rcases hid with h | h <;> rw [h] <;> decide

theorem publish_inv {r : DecodedResult} (hr : r.InRange Config.protocols) {s : State} (h : s.Inv) :
    (publish r s).Inv := by
  obtain ⟨hcounts, hactivity, hpins, ⟨hcfg, hpulse, htol, -, -⟩, htrain, -⟩ := h
  exact ⟨hcounts, hactivity, hpins, ⟨hcfg, hpulse, htol, codeHi_reserved _, resultMeta_reserved r⟩, htrain,
    publish_resultOk hr s⟩

theorem publishIfAny_inv {o : Option DecodedResult} (ho : ∀ r, o = some r → r.InRange Config.protocols) {s : State}
    (h : s.Inv) : (publishIfAny o s).Inv := by
  cases o with
  | none => exact h
  | some r => exact publish_inv (ho r rfl) h

/-- Taking the oldest event leaves the queue of mode RX shorter. -/
theorem takeEdge_inv {s : State} {ts : Word} {rest : List Word} {d : Decoder} (hfifo : s.efifo = ts :: rest)
    (hd : d.CountsOk) (h : s.Inv) : State.Inv { s with efifo := rest, decoder := d } := by
  obtain ⟨-, ⟨hbusy, hnone, hempty, hdepth⟩, hpins, hreserved, htrain, hresult⟩ := h
  rw [hfifo] at hempty hdepth
  refine ⟨hd, ⟨hbusy, hnone, fun hne => ?_, (Nat.le_succ _).trans hdepth⟩, hpins, hreserved, htrain, hresult⟩
  cases hempty hne

theorem processEdge_inv {s : State} (h : s.Inv) : (processEdge s).Inv := by
  rcases processEdge_publishes s with heq | ⟨ts, rest, d, o, hfifo, hstep, heq⟩ <;> rw [heq]
  · exact h
  · have hcounts : s.decoder.CountsOk := h.1
    have hd : d.CountsOk := by
      simpa only [hstep] using decoderStep_countsOk Config.protocols s.regs.tolPct.toNat ts hcounts
    have ho : ∀ r, o = some r → r.InRange Config.protocols := fun r hr =>
      decoderStep_inRange hcounts ((congrArg Prod.snd hstep).trans hr)
    exact publishIfAny_inv ho (takeEdge_inv hfifo hd h)

theorem perform_inv {op : Op} {s t : State} (hperform : perform op s = .next t) (h : s.Inv) : t.Inv := by
  rcases perform_cases hperform with ⟨i, hi⟩ | rfl | rfl
  · exact hi.inv h
  · exact processEdge_inv h
  · exact segmentStep_inv h

/-- Settles O58: waiting changes nothing, a reset gives the reset state, and every operation keeps the invariants. -/
theorem everyStepKeepsTheInvariant : Obligations.EveryStepKeepsTheInvariant := by
  intro s t h hstep
  rcases step_cases s with ⟨-, heq⟩ | ⟨e, rest, -, -, heq⟩ | ⟨e, rest, -, -, heq⟩
  · cases heq.symm.trans hstep
    exact h
  · cases heq.symm.trans hstep
    exact reset_inv
  · exact perform_inv (heq.symm.trans hstep) h

end Sys2Proof.Machine

/-! ## Operations one at a time

The statements of 20_memory.md: what a step with reset released performs, and the result registers, which only a
publication writes. -/

namespace Sys2Proof.Machine

/-! ### The step of the next operation (20_memory.md R66, R68) -/

/-- With reset released a step performs the next operation, at the time that this sees. -/
theorem step_eq_perform {s : State} {e : Event} {rest : List Event} (hpending : s.pending = e :: rest)
    (hrst : e.rstN = true) : step s = perform e.op { s with nowUs := e.nowUs, pending := rest } := by
  obtain ⟨rstN, now, op⟩ := e
  obtain rfl : rstN = true := hrst
  exact takeNextBy_eventAt exec processEdge hpending

/-- A carrier runs the instruction that it decodes to at the time the state samples (30_encoding.md R76). -/
theorem perform_port_of_decode_ok {s : State} {c : Carrier} {i : Instr} (hi : decode s.nowUs c = .ok i) :
    perform (.port c) s = exec i s := by
  show present c s = exec i s
  rcases present_cases c s with ⟨i', hi', heq⟩ | ⟨w, herror, -⟩
  · cases hi'.symm.trans hi
    exact heq
  · cases herror.symm.trans hi

/-- Settles O7: the step performs the carrier, which runs what it decodes to. -/
theorem aStepRunsTheDecodedInstruction : Obligations.AStepRunsTheDecodedInstruction := by
  intro s e rest c i hpending hrst hop hi
  rw [step_eq_perform hpending hrst, hop]
  exact perform_port_of_decode_ok (s := { s with nowUs := e.nowUs, pending := rest }) hi

/-! ### What a publication writes (10_state.md R34 to R39, 44_decoder.md R176) -/

theorem toNat_append_eq_add {n m : Nat} (x : BitVec n) (y : BitVec m) :
    (x ++ y).toNat = x.toNat * 2 ^ m + y.toNat := by
  rw [BitVec.toNat_append, ← Nat.shiftLeft_add_eq_or_of_lt y.isLt, Nat.shiftLeft_eq]

/-- RX_CODE_HI is bit 32 of the code, as a number. -/
theorem codeHi_eq_ofNat (code : Nat) :
    0#31 ++ BitVec.ofBool (code.testBit 32) = BitVec.ofNat 32 (code / 2 ^ 32 % 2) := by
  apply BitVec.eq_of_toNat_eq
  rw [toNat_append_eq_add, BitVec.toNat_ofBool, Nat.toNat_testBit, BitVec.toNat_ofNat, BitVec.toNat_ofNat]
  omega

/-- RX_META is BIT_LENGTH and, 8 places up, PROTOCOL, as a number. -/
theorem resultMeta_eq_ofNat (r : DecodedResult) :
    resultMeta r = BitVec.ofNat 32 (r.bitLength % 64 + (r.protocol % 16) * 256) := by
  apply BitVec.eq_of_toNat_eq
  rw [resultMeta, toNat_append_eq_add (n := 26), toNat_append_eq_add (n := 24), toNat_append_eq_add (n := 20)]
  simp only [BitVec.toNat_ofNat]
  omega

/-- The result registers that hold a result whole, when RX_SEQ counts to `seq`. -/
def DecodedResult.toRegs (r : DecodedResult) (seq : Word) : ResultRegs where
  codeLo := BitVec.ofNat 32 r.code
  codeHi := BitVec.ofNat 32 (r.code / 2 ^ 32 % 2)
  metaWord := BitVec.ofNat 32 (r.bitLength % 64 + (r.protocol % 16) * 256)
  unitDelay := BitVec.ofNat 32 r.unitDelay
  timestamp := r.timestamp
  seqCount := seq

theorem publish_result (r : DecodedResult) (s : State) :
    (publish r s).result = r.toRegs (s.result.seqCount + 1#32) := by
  rw [DecodedResult.toRegs, ← codeHi_eq_ofNat, ← resultMeta_eq_ofNat]
  rfl

/-! ### Who leaves the result registers alone -/

theorem CommandEffect.result_eq {s u : State} {c : Command} (hu : CommandEffect s c u) : u.result = s.result := by
  cases hu with
  | nop | encLogic0 | encLogic1 | encSync => rfl
  | txEnable => rcases enableTx_cases s with ⟨-, h⟩ | ⟨-, h⟩ <;> rw [h]
  | rxEnable => rcases enableRx_cases s with ⟨-, h⟩ | ⟨-, h⟩ <;> rw [h]
  | rxDisable => rcases disableRx_cases s with ⟨-, h⟩ | ⟨-, h⟩ <;> rw [h]
  | txDisable => rcases disableTx_cases s with ⟨-, h⟩ | ⟨-, -, h⟩ | ⟨-, -, h⟩ <;> simp [h]
  | send p => rcases acceptSend_cases p s with h | ⟨g, rest, -, h⟩ <;> simp [h]
  | cleanup => rcases cleanUp_cases s with ⟨-, -, h⟩ | ⟨-, h⟩ <;> simp [h]

theorem captureEdge_result (ts : Word) (s : State) : (captureEdge ts s).result = s.result := by
  rcases captureEdge_cases ts s with ⟨-, h⟩ | ⟨-, -, h⟩ | ⟨-, -, h⟩ <;> rw [h]

theorem InstrEffect.result_eq {s t : State} {i : Instr} (h : InstrEffect s i t) : t.result = s.result := by
  cases h with
  | rejected | regRead | regWrite => rfl
  | accepted _ hu => exact hu.result_eq
  | edge ts => exact captureEdge_result ts s

theorem segmentStep_result (s : State) : (segmentStep s).result = s.result := by
  rcases segmentStep_cases s with h | ⟨g, next, rest, -, -, -, -, h⟩ | ⟨g, -, -, -, -, h⟩ <;> simp [h]

/-- Whatever a carrier presents, an illegal word among it, is no publication. -/
theorem perform_port_keeps_result {c : Carrier} {s t : State} (h : perform (.port c) s = .next t) :
    t.result = s.result ∧ t.status.rxValid = s.status.rxValid := by
  have hport : present c s = .next t := h
  rcases present_cases c s with ⟨i, -, heq⟩ | ⟨w, -, heq⟩
  · have heffect := instrEffect_of_exec (heq.symm.trans hport)
    exact ⟨heffect.result_eq, heffect.rxValid_eq⟩
  · cases heq.symm.trans hport
    exact ⟨rfl, rfl⟩

/-! ### The result is replaced as a whole (20_memory.md R69) -/

/-- Edge processing publishes the one result of the decoder step, or leaves the result alone. -/
theorem processEdge_result (s : State) :
    ((processEdge s).result = s.result ∧ (processEdge s).status.rxValid = s.status.rxValid) ∨
      ∃ ts waiting r, s.efifo = ts :: waiting ∧
        (decoderStep Config.protocols s.regs.tolPct.toNat ts s.decoder).2 = some r ∧
        (processEdge s).result = r.toRegs (s.result.seqCount + 1#32) ∧ (processEdge s).status.rxValid = true := by
  rcases processEdge_publishes s with h | ⟨ts, waiting, d, o, hfifo, hstep, h⟩
  · rw [h]
    exact .inl ⟨rfl, rfl⟩
  · cases o with
    | none =>
      rw [h]
      exact .inl ⟨rfl, rfl⟩
    | some r =>
      rw [h]
      exact .inr ⟨ts, waiting, r, hfifo, congrArg Prod.snd hstep, publish_result r _, rfl⟩

/-- Only edge processing publishes; every other operation leaves the result and RX_VALID as they are. -/
theorem perform_result {op : Op} {s t : State} (h : perform op s = .next t) :
    (t.result = s.result ∧ t.status.rxValid = s.status.rxValid) ∨
      ∃ ts waiting r, op = .process ∧ s.efifo = ts :: waiting ∧
        (decoderStep Config.protocols s.regs.tolPct.toNat ts s.decoder).2 = some r ∧
        t.result = r.toRegs (s.result.seqCount + 1#32) ∧ t.status.rxValid = true := by
  cases op with
  | port c => exact .inl (perform_port_keeps_result h)
  | segStep =>
    cases h
    exact .inl ⟨segmentStep_result s, (segmentStep_flags s).1⟩
  | process =>
    cases h
    rcases processEdge_result s with hkept | ⟨ts, waiting, r, hpublished⟩
    · exact .inl hkept
    · exact .inr ⟨ts, waiting, r, rfl, hpublished⟩

/-- Settles O51: a step with reset released performs its operation, and sampling the time touches none of the fields. -/
theorem theResultIsAnAtomicSnapshot : Obligations.TheResultIsAnAtomicSnapshot := by
  intro s t e rest hpending hrst hstep
  have hresult := perform_result ((step_eq_perform hpending hrst).symm.trans hstep)
  exact hresult

end Sys2Proof.Machine

/-! ## The encoding

The decoder and the encoder read the same tables, so each layer of the one undoes the same layer of the other: the
opcode map, the word of a command, the register map and the 5 bits of a BUS access. From these: decoding and encoding
are inverse to each other, and exactly the ten words of the opcode map are commands (30_encoding.md). -/

namespace Sys2Proof.Machine

/-! ### The words of the commands (30_encoding.md R76 to R78) -/

@[simp] theorem cmdReserved_word (c : Command) : cmdReserved c.word = 0#24 :=
  BitVec.extractLsb'_append_eq_left (w := 24) (w' := 8)

@[simp] theorem cmdOpc_word (c : Command) : cmdOpc c.word = c.opc :=
  BitVec.extractLsb'_append_eq_right (w := 24) (w' := 8)

@[simp] theorem commandOfOpc_opc (c : Command) : commandOfOpc c.opc = some c := by
  cases c <;> rfl

/-- A word is a command exactly when it is the one that the opcode map gives to it. -/
theorem decodeCommand_eq_some_iff {w : Word} {c : Command} : decodeCommand w = some c ↔ w = c.word := by
  constructor
  · exact word_eq_of_decodeCommand
  · rintro rfl
    simp [decodeCommand]

theorem decode_cmd_word (now : Word) (c : Command) : decode now (.cmd c.word) = .ok c.toInstr :=
  (decode_cmd_eq_ok_iff now c.word c.toInstr).mpr ⟨c, decodeCommand_eq_some_iff.mpr rfl, rfl⟩

theorem decode_cmd_eq_error_iff (now w : Word) :
    decode now (.cmd w) = .error (.illegalCommand w) ↔ decodeCommand w = none := by
  cases h : decodeCommand w <;> simp [decode, h]

/-! ### The register map and the bits of a BUS access (10_state.md R25, 30_encoding.md R84) -/

@[simp] theorem ofAddr_addr (slot : Slot) : Slot.ofAddr slot.addr = slot := by
  cases slot <;> rfl

@[simp] theorem addr_ofAddr (a : BitVec 4) : (Slot.ofAddr a).addr = a := by
  decide +revert

theorem offset_ofAddr (a : BitVec 4) : (Slot.ofAddr a).offset = a.toNat * 4 := by
  rw [Slot.offset, addr_ofAddr]

/-- DIR is the bit above ADDR. -/
theorem getLsbD_dir_append_addr (dir : BitVec 1) (a : BitVec 4) : (dir ++ a).getLsbD 4 = dir.getLsbD 0 :=
  getLsbD_append_high 1 4 dir a le_rfl

theorem decodeBus_append (dir : BitVec 1) (a : BitVec 4) (v : Word) :
    decodeBus (dir ++ a) v =
      if dir.getLsbD 0 then .regWrite (Slot.ofAddr a) v else .regRead (Slot.ofAddr a) := by
  rw [decodeBus, getLsbD_dir_append_addr, BitVec.extractLsb'_append_eq_right]

theorem decode_bus_read (now : Word) (a : BitVec 4) (v : Word) :
    decode now (.bus (0#1 ++ a) v) = .ok (.regRead (Slot.ofAddr a)) :=
  congrArg Except.ok (decodeBus_append 0#1 a v)

theorem decode_bus_write (now : Word) (a : BitVec 4) (v : Word) :
    decode now (.bus (1#1 ++ a) v) = .ok (.regWrite (Slot.ofAddr a) v) :=
  congrArg Except.ok (decodeBus_append 1#1 a v)

/-- The 5 bits of an access are the read or the write of some ADDR. -/
theorem sel_eq_read_or_write (sel : BitVec 5) : ∃ a : BitVec 4, sel = 0#1 ++ a ∨ sel = 1#1 ++ a := by
  have hsel : sel = sel.extractLsb' 4 1 ++ sel.extractLsb' 0 4 :=
    (BitVec.extractLsb'_append_extractLsb' (w := 1) (len := 4)).symm
  refine ⟨sel.extractLsb' 0 4, ?_⟩
  rcases BitVec.eq_zero_or_eq_one (sel.extractLsb' 4 1) with hdir | hdir
  · rw [hdir] at hsel
    exact .inl hsel
  · rw [hdir] at hsel
    exact .inr hsel

/-- A well-formed read drives no write data (log 16). -/
theorem data_eq_zero_of_wf_read {a : BitVec 4} {v : Word} (h : (Carrier.bus (0#1 ++ a) v).wf = true) : v = 0#32 := by
  have hdir : (0#1 ++ a).getLsbD 4 = false := getLsbD_dir_append_addr 0#1 a
  rw [Carrier.wf, hdir, Bool.false_or] at h
  exact eq_of_beq h

/-! ### Decoding and encoding are inverse to each other -/

theorem encode_toInstr (now : Word) (c : Command) : encode now c.toInstr = (now, .cmd c.word) := by
  cases c <;> rfl

theorem decode_encode_toInstr (now : Word) (c : Command) :
    decode (encode now c.toInstr).1 (encode now c.toInstr).2 = .ok c.toInstr := by
  rw [encode_toInstr]
  exact decode_cmd_word now c

/-- Settles O1, format by format: the word of a command, the bits of an access, and the time of a strobe. -/
theorem decodingAnEncodedInstructionGivesItBack : Obligations.DecodingAnEncodedInstructionGivesItBack := by
  intro now i
  cases i with
  | nop => exact decode_encode_toInstr now .nop
  | txEnable => exact decode_encode_toInstr now .txEnable
  | txDisable => exact decode_encode_toInstr now .txDisable
  | rxEnable => exact decode_encode_toInstr now .rxEnable
  | rxDisable => exact decode_encode_toInstr now .rxDisable
  | send => exact decode_encode_toInstr now .send
  | cleanup => exact decode_encode_toInstr now .cleanup
  | encLogic0 => exact decode_encode_toInstr now .encLogic0
  | encLogic1 => exact decode_encode_toInstr now .encLogic1
  | encSync => exact decode_encode_toInstr now .encSync
  | regRead slot =>
    have h := decode_bus_read now slot.addr 0#32
    rwa [ofAddr_addr] at h
  | regWrite slot v =>
    have h := decode_bus_write now slot.addr v
    rwa [ofAddr_addr] at h
  | edge ts => rfl

/-- Settles O2, by the format of the carrier: a legal word is its command's, an access is its bits, and only a read
needs the premise that the carrier is well-formed. -/
theorem encodingADecodedCarrierGivesItBack : Obligations.EncodingADecodedCarrierGivesItBack := by
  intro now c i hwf hi
  cases c with
  | cmd w =>
    obtain ⟨c, hc, rfl⟩ := (decode_cmd_eq_ok_iff now w i).mp hi
    rw [encode_toInstr, decodeCommand_eq_some_iff.mp hc]
  | bus sel v =>
    obtain ⟨a, rfl | rfl⟩ := sel_eq_read_or_write sel
    · cases (decode_bus_read now a v).symm.trans hi
      rw [encode, addr_ofAddr, data_eq_zero_of_wf_read hwf]
    · cases (decode_bus_write now a v).symm.trans hi
      rw [encode, addr_ofAddr]
  | edge =>
    cases hi
    rfl

/-! ### Exactly ten words are commands (30_encoding.md R77 to R79) -/

/-- The commands in the order of the opcode map. -/
def Command.all : List Command :=
  [.nop, .txEnable, .txDisable, .rxEnable, .rxDisable, .send, .cleanup, .encLogic0, .encLogic1, .encSync]

theorem Command.mem_all (c : Command) : c ∈ Command.all := by
  cases c <;> decide

theorem mem_words_iff (w : Word) : w ∈ Command.all.map Command.word ↔ ∃ c : Command, w = c.word := by
  simp [List.mem_map, Command.mem_all, eq_comm]

theorem decode_cmd_legal_iff (now w : Word) : (∃ i, decode now (.cmd w) = .ok i) ↔ ∃ c : Command, w = c.word := by
  constructor
  · rintro ⟨i, hi⟩
    obtain ⟨c, hc, -⟩ := (decode_cmd_eq_ok_iff now w i).mp hi
    exact ⟨c, decodeCommand_eq_some_iff.mp hc⟩
  · rintro ⟨c, rfl⟩
    exact ⟨c.toInstr, decode_cmd_word now c⟩

theorem opc_not_reserved (c : Command) : ¬(c.opc = 0x07#8 ∨ 0x0B#8 ≤ c.opc) := by
  cases c <;> decide

/-- A reserved bit or a reserved opcode is in none of the ten words. -/
theorem decodeCommand_eq_none_of_reserved {w : Word}
    (h : cmdReserved w ≠ 0#24 ∨ cmdOpc w = 0x07#8 ∨ 0x0B#8 ≤ cmdOpc w) : decodeCommand w = none := by
  cases hc : decodeCommand w with
  | none => rfl
  | some c =>
    obtain rfl := decodeCommand_eq_some_iff.mp hc
    rw [cmdReserved_word, cmdOpc_word] at h
    rcases h with hreserved | hopc
    · exact absurd rfl hreserved
    · exact absurd hopc (opc_not_reserved c)

theorem present_of_decode_ok {c : Carrier} {i : Instr} {s : State} (h : decode s.nowUs c = .ok i) :
    present c s = exec i s :=
  perform_port_of_decode_ok h

/-- The CMD format is the REG_WRITE of CMD, for a command and for an illegal word (30_encoding.md R75; log 8). -/
theorem present_cmd (w : Word) (s : State) : present (.cmd w) s = exec (.regWrite .cmd w) s := by
  rw [exec_regWrite_cmd]
  cases hc : decodeCommand w with
  | some c =>
    have hi : decode s.nowUs (.cmd w) = .ok c.toInstr := (decode_cmd_eq_ok_iff s.nowUs w _).mpr ⟨c, hc, rfl⟩
    rw [present_of_decode_ok hi, exec_toInstr, writeCmd_of_some hc]
  | none =>
    rw [writeCmd_of_none hc]
    rcases present_cases (.cmd w) s with ⟨i, hi, -⟩ | ⟨w', -, heq⟩
    · cases hi.symm.trans ((decode_cmd_eq_error_iff s.nowUs w).mpr hc)
    · exact heq

/-- Settles O3: the legal words are the commands' words, which have no reserved bit and no reserved opcode. -/
theorem exactlyTenWordsAreCommands : Obligations.ExactlyTenWordsAreCommands := by
  intro now w
  refine ⟨(decode_cmd_legal_iff now w).trans (mem_words_iff w).symm, fun hreserved => ?_, fun hillegal s => ?_⟩
  · exact (decode_cmd_eq_error_iff now w).mpr (decodeCommand_eq_none_of_reserved hreserved)
  · have hwrite : exec (.regWrite .cmd w) s = .next (raise .illegalCommand s) :=
      writeCmd_of_none ((decode_cmd_eq_error_iff now w).mp hillegal) s
    exact ⟨hwrite, (present_cmd w s).trans hwrite⟩

/-! ### A write to CMD (30_encoding.md R75, R76, 40_host_interface.md R91) -/

/-- Settles O6: REG_WRITE of CMD runs the decoded command, and a BUS write to ADDR 0 is that REG_WRITE. -/
theorem aWriteToCmdRunsItsCommand : Obligations.AWriteToCmdRunsItsCommand := by
  refine ⟨fun now w i s hi => ?_, fun w s => ?_⟩
  · have h := execUnder_regWrite_cmd Config.protocols s hi
    rwa [execUnder_default, execUnder_default] at h
  · calc present (.bus (1#1 ++ 0#4) w) s = exec (.regWrite .cmd w) s := present_of_decode_ok (decode_bus_write _ 0#4 w)
      _ = present (.cmd w) s := (present_cmd w s).symm

/-! ### The opcode map and the register map, row by row -/

/-- Settles O4: each row's word is its command's. -/
theorem commandWordsDecodeAsTheOpcodeMapSays : Obligations.CommandWordsDecodeAsTheOpcodeMapSays := fun now =>
  ⟨decode_cmd_word now .nop, decode_cmd_word now .txEnable, decode_cmd_word now .txDisable,
    decode_cmd_word now .rxEnable, decode_cmd_word now .rxDisable, decode_cmd_word now .send,
    decode_cmd_word now .cleanup, decode_cmd_word now .encLogic0, decode_cmd_word now .encLogic1,
    decode_cmd_word now .encSync⟩

/-- Settles O5: every ADDR names its slot, and the rows listed are those of `Slot.ofAddr`. -/
theorem everyBusAccessAndStrobeDecodes : Obligations.EveryBusAccessAndStrobeDecodes := by
  intro now a v
  refine ⟨⟨Slot.ofAddr a, offset_ofAddr a, decode_bus_read now a v, decode_bus_write now a v⟩,
    fun e he => ?_, rfl⟩
  have hrow : e.2.2 = Slot.ofAddr e.1 ∧ e.2.1 = e.1.toNat * 4 := by
    revert e
    decide
  obtain ⟨hslot, hoffset⟩ := hrow
  rw [hslot, hoffset]
  exact ⟨offset_ofAddr e.1, decode_bus_read now e.1 v, decode_bus_write now e.1 v⟩

end Sys2Proof.Machine

/-! ## The host interface

Register accesses, NOP and the mode commands (40_host_interface.md). What a command does to the mode is said once, of its
effect: it leaves the mode, or it is one of the five mode commands and has OFF on one side. An equation per instruction
then gives each rule its full record. -/

namespace Sys2Proof.Machine

/-! ### The mode (40_host_interface.md R95 to R100) -/

/-- The commands that may change the mode (R100). -/
def Command.modeCommands : List Command := [.txEnable, .txDisable, .rxEnable, .rxDisable, .cleanup]

/-- Two modes, one of which is OFF: what R95 to R99 move between. -/
def Mode.ThroughOff (m m' : Mode) : Prop := m = .off ∨ m' = .off

theorem Mode.ThroughOff.not_tx_rx {m m' : Mode} (h : m.ThroughOff m') :
    ¬(m = .tx ∧ m' = .rx) ∧ ¬(m = .rx ∧ m' = .tx) := by
  rcases h with rfl | rfl <;> simp

/-- A command leaves the mode, or is a mode command that enters it from OFF or leaves it for OFF. -/
theorem CommandEffect.mode_cases {s u : State} {c : Command} (hu : CommandEffect s c u) :
    u.status.mode = s.status.mode ∨ (c ∈ Command.modeCommands ∧ s.status.mode.ThroughOff u.status.mode) := by
  cases hu with
  | nop | encLogic0 | encLogic1 | encSync => exact .inl rfl
  | txEnable =>
    rcases enableTx_cases s with ⟨hoff, -⟩ | ⟨-, h⟩
    · exact .inr ⟨by decide, .inl hoff⟩
    · exact .inl (by rw [h])
  | rxEnable =>
    rcases enableRx_cases s with ⟨hoff, -⟩ | ⟨-, h⟩
    · exact .inr ⟨by decide, .inl hoff⟩
    · exact .inl (by rw [h])
  | rxDisable =>
    rcases disableRx_cases s with ⟨-, h⟩ | ⟨-, h⟩
    · exact .inr ⟨by decide, .inr (by rw [h])⟩
    · exact .inl (by rw [h])
  | txDisable =>
    rcases disableTx_cases s with ⟨-, h⟩ | ⟨-, -, h⟩ | ⟨-, -, h⟩
    · exact .inl (by rw [h])
    · exact .inr ⟨by decide, .inr (by rw [h])⟩
    · exact .inr ⟨by decide, .inr (by rw [h])⟩
  | send p => rcases acceptSend_cases p s with h | ⟨g, rest, -, h⟩ <;> exact .inl (by simp [h])
  | cleanup => exact .inr ⟨by decide, .inr rfl⟩

theorem captureEdge_mode (ts : Word) (s : State) : (captureEdge ts s).status.mode = s.status.mode := by
  rcases captureEdge_cases ts s with ⟨-, h⟩ | ⟨-, -, h⟩ | ⟨-, -, h⟩ <;> rw [h]

/-- An instruction leaves the mode, or is a mode command, as such or written to CMD, with OFF on one side. -/
theorem InstrEffect.mode_cases {s t : State} {i : Instr} (h : InstrEffect s i t) :
    t.status.mode = s.status.mode ∨
      ((∃ c ∈ Command.modeCommands, i = c.toInstr ∨ i = .regWrite .cmd c.word) ∧
        s.status.mode.ThroughOff t.status.mode) := by
  cases h with
  | rejected | regRead | regWrite => exact .inl rfl
  | @accepted _ c _ hi hu => exact hu.mode_cases.imp id fun ⟨hc, hoff⟩ => ⟨⟨c, hc, hi⟩, hoff⟩
  | edge ts => exact .inl (captureEdge_mode ts s)

theorem InstrEffect.not_between_tx_rx {s t : State} {i : Instr} (h : InstrEffect s i t) :
    ¬(s.status.mode = .tx ∧ t.status.mode = .rx) ∧ ¬(s.status.mode = .rx ∧ t.status.mode = .tx) := by
  rcases h.mode_cases with hkept | ⟨-, hoff⟩
  · rw [hkept]
    cases s.status.mode <;> simp
  · exact hoff.not_tx_rx

theorem publishIfAny_mode (r : Option DecodedResult) (s : State) :
    (publishIfAny r s).status.mode = s.status.mode := by
  cases r <;> rfl

theorem processEdge_mode (s : State) : (processEdge s).status.mode = s.status.mode := by
  rcases processEdge_publishes s with h | ⟨ts, rest, d, r, -, -, h⟩
  · rw [h]
  · rw [h, publishIfAny_mode]

theorem segmentStep_mode (s : State) : (segmentStep s).status.mode = s.status.mode := by
  rcases segmentStep_cases s with h | ⟨g, next, rest, -, -, -, -, h⟩ | ⟨g, -, -, -, -, h⟩ <;> simp [h]

/-! ### An equation per instruction (40_host_interface.md R90 to R99) -/

theorem command_of_error {α : Type} {check : Except ErrCode α} {e : ErrCode} (h : check = .error e)
    (effect : α → State → State) (s : State) : command check effect s = raise e s := by
  rw [h, command]

theorem command_of_ok {α : Type} {check : Except ErrCode α} {a : α} (h : check = .ok a)
    (effect : α → State → State) (s : State) : command check effect s = succeed (effect a s) := by
  rw [h, command]

theorem exclusiveWith_eq_error {other : Mode} {s : State} (h : s.status.mode = other) :
    exclusiveWith other s = .error .modeConflict :=
  if_pos h

theorem exec_nop (s : State) : exec .nop s = .next (succeed s) := rfl

theorem exec_txEnable_of_rx {s : State} (h : s.status.mode = .rx) :
    exec .txEnable s = .next (raise .modeConflict s) :=
  congrArg Host.Outcome.next (command_of_error (exclusiveWith_eq_error h) (fun _ => enableTx) s)

theorem exec_txEnable_of_ne_rx {s : State} (h : s.status.mode ≠ .rx) :
    exec .txEnable s = .next (succeed (enableTx s)) :=
  congrArg Host.Outcome.next (command_of_ok ((exclusiveWith_ok_iff .rx s).mpr h) (fun _ => enableTx) s)

theorem exec_rxEnable_of_tx {s : State} (h : s.status.mode = .tx) :
    exec .rxEnable s = .next (raise .modeConflict s) :=
  congrArg Host.Outcome.next (command_of_error (exclusiveWith_eq_error h) (fun _ => enableRx) s)

theorem exec_rxEnable_of_ne_tx {s : State} (h : s.status.mode ≠ .tx) :
    exec .rxEnable s = .next (succeed (enableRx s)) :=
  congrArg Host.Outcome.next (command_of_ok ((exclusiveWith_ok_iff .tx s).mpr h) (fun _ => enableRx) s)

theorem exec_txDisable (s : State) : exec .txDisable s = .next (succeed (disableTx s)) := rfl

theorem exec_rxDisable (s : State) : exec .rxDisable s = .next (succeed (disableRx s)) := rfl

theorem exec_cleanup (s : State) : exec .cleanup s = .next (succeed (cleanUp s)) := rfl

theorem exec_regRead (slot : Slot) (s : State) : exec (.regRead slot) s = .next (driveRdata (slotValue s slot) s) := rfl

theorem decode_bus_read_slot (now : Word) (slot : Slot) (v : Word) :
    decode now (.bus (0#1 ++ slot.addr) v) = .ok (.regRead slot) := by
  rw [decode_bus_read, ofAddr_addr]

/-- Only the four RW registers store a plain write (R91, R92). -/
theorem storeSlot_of_not_writable {slot : Slot} (h : slot ∉ [Slot.txCode, .txCfg, .txPulse, .rxTol]) (v : Word)
    (r : HostRegs) : storeSlot slot v r = r := by
  cases slot with
  | txCode | txCfg | txPulse | rxTol => simp at h
  | cmd | status | rxCodeLo | rxCodeHi | rxMeta | rxUnit | rxTime | rxSeq | waveHigh | waveLow | unmapped38
  | unmapped3C => rfl

/-! ### TX and RX exclude each other (40_host_interface.md R100) -/

/-- Settles O22: every effect leaves the mode or has OFF on one side, and only the five mode commands have the latter. -/
theorem modesAreExclusive : Obligations.ModesAreExclusive := by
  refine ⟨fun s => ⟨exec_txEnable_of_rx, exec_rxEnable_of_tx⟩,
    fun i s t hexec => (instrEffect_of_exec hexec).not_between_tx_rx, fun i s t hexec hchanged => ?_,
    fun s => ⟨processEdge_mode s, segmentStep_mode s⟩⟩
  obtain ⟨⟨c, hc, hi⟩, -⟩ := (instrEffect_of_exec hexec).mode_cases.resolve_left hchanged
  rcases hi with rfl | rfl
  · exact .inl (List.mem_map_of_mem (f := Command.toInstr) hc)
  · exact .inr ⟨c.word, List.mem_map_of_mem (f := Command.word) hc, rfl⟩

/-! ### Register accesses (40_host_interface.md R90 to R92) -/

/-- Settles O12: each slot's read is the one equation of REG_READ. -/
theorem regReadReturnsTheSlotAndNothingElse : Obligations.RegReadReturnsTheSlotAndNothingElse := fun s =>
  ⟨decode_bus_read_slot s.nowUs, exec_regRead .cmd s, exec_regRead .status s, exec_regRead .txCode s,
    exec_regRead .txCfg s, exec_regRead .txPulse s, exec_regRead .rxTol s, exec_regRead .rxCodeLo s,
    exec_regRead .rxCodeHi s, exec_regRead .rxMeta s, exec_regRead .rxUnit s, exec_regRead .rxTime s,
    exec_regRead .rxSeq s, exec_regRead .waveHigh s, exec_regRead .waveLow s, exec_regRead .unmapped38 s,
    exec_regRead .unmapped3C s⟩

/-- Settles O13: a write to a slot other than CMD is the store of that slot. -/
theorem regWriteStoresTheDefinedBits : Obligations.RegWriteStoresTheDefinedBits := fun v s =>
  ⟨exec_regWrite_of_ne_cmd (slot := .txCode) (by decide) v s, exec_regWrite_of_ne_cmd (slot := .txCfg) (by decide) v s,
    exec_regWrite_of_ne_cmd (slot := .txPulse) (by decide) v s,
    exec_regWrite_of_ne_cmd (slot := .rxTol) (by decide) v s⟩

/-- Settles O14: the eleven slots are neither CMD nor one of the RW registers. -/
theorem aWriteToAReadOnlySlotChangesNothing : Obligations.AWriteToAReadOnlySlotChangesNothing := by
  intro v s slot hslot
  have hplain : slot ≠ .cmd ∧ slot ∉ [Slot.txCode, .txCfg, .txPulse, .rxTol] := by
    revert slot
    decide
  obtain ⟨hcmd, hwritable⟩ := hplain
  rw [exec_regWrite_of_ne_cmd hcmd, storeSlot_of_not_writable hwritable]

/-! ### NOP and the mode commands (40_host_interface.md R94 to R99) -/

/-- Settles O15: NOP is the report of success alone. -/
theorem nopOnlyReportsOk : Obligations.NopOnlyReportsOk := fun s => ⟨decode_cmd_word s.nowUs .nop, exec_nop s⟩

/-- Settles O16, mode by mode. -/
theorem txEnableEntersTxFromOff : Obligations.TxEnableEntersTxFromOff := by
  refine fun s => ⟨decode_cmd_word s.nowUs .txEnable, exec_txEnable_of_rx, fun hoff => ?_, fun htx => ?_⟩
  · obtain ⟨-, heq⟩ := (enableTx_cases s).resolve_right fun ⟨hne, _⟩ => hne hoff
    rw [exec_txEnable_of_ne_rx (by simp [hoff]), heq]
    rfl
  · obtain ⟨-, heq⟩ := (enableTx_cases s).resolve_left fun ⟨hoff, _⟩ => by simp [htx] at hoff
    rw [exec_txEnable_of_ne_rx (by simp [htx]), heq]
    rfl

/-- Settles O17, along the three cases of leaving TX; each rules out the premises of the other two clauses. -/
theorem txDisableLeavesTxAndAborts : Obligations.TxDisableLeavesTxAndAborts := by
  refine fun s => ⟨decode_cmd_word s.nowUs .txDisable, ?_⟩
  rw [exec_txDisable]
  rcases disableTx_cases s with ⟨hother, heq⟩ | ⟨htx, hbusy, heq⟩ | ⟨htx, hidle, heq⟩ <;> rw [heq]
  · exact ⟨fun h => absurd h hother, fun h => absurd h hother, fun _ => rfl⟩
  · exact ⟨fun _ _ => rfl, fun _ h => (not_cleared_of_set hbusy h).elim, fun h => absurd htx h⟩
  · exact ⟨fun _ h => (not_cleared_of_set h hidle).elim, fun _ _ => rfl, fun h => absurd htx h⟩

/-- Settles O18, mode by mode. -/
theorem rxEnableEntersRxFromOffAndClearsOverflow : Obligations.RxEnableEntersRxFromOffAndClearsOverflow := by
  refine fun s => ⟨decode_cmd_word s.nowUs .rxEnable, exec_rxEnable_of_tx, fun hoff => ?_, fun hrx => ?_⟩
  · obtain ⟨-, heq⟩ := (enableRx_cases s).resolve_right fun ⟨hne, _⟩ => hne hoff
    rw [exec_rxEnable_of_ne_tx (by simp [hoff]), heq]
    rfl
  · obtain ⟨-, heq⟩ := (enableRx_cases s).resolve_left fun ⟨hoff, _⟩ => by simp [hrx] at hoff
    rw [exec_rxEnable_of_ne_tx (by simp [hrx]), heq]
    rfl

/-- Settles O19, in mode RX and outside it. -/
theorem rxDisableLeavesRxAndDropsWaitingEdges : Obligations.RxDisableLeavesRxAndDropsWaitingEdges := by
  refine fun s => ⟨decode_cmd_word s.nowUs .rxDisable, fun hrx => ?_, fun hother => ?_⟩
  · obtain ⟨-, heq⟩ := (disableRx_cases s).resolve_right fun ⟨hne, _⟩ => hne hrx
    rw [exec_rxDisable, heq]
    rfl
  · obtain ⟨-, heq⟩ := (disableRx_cases s).resolve_left fun ⟨hrx, _⟩ => hother hrx
    rw [exec_rxDisable, heq]
    rfl

/-- Settles O20: with a train in TX the release follows the abort in the trace, otherwise it stands alone. -/
theorem cleanupLeavesAnyModeAndReleases : Obligations.CleanupLeavesAnyModeAndReleases := by
  refine fun s => ⟨decode_cmd_word s.nowUs .cleanup, fun htx hbusy => ?_, fun hnone => ?_⟩
  · obtain ⟨-, -, heq⟩ := (cleanUp_cases s).resolve_right fun ⟨hnone, _⟩ => hnone ⟨htx, hbusy⟩
    have htrace : s.trace ++ [.abort, .release] = (s.trace ++ [.abort]) ++ [.release] :=
      (List.append_assoc s.trace [.abort] [.release]).symm
    rw [exec_cleanup, heq, htrace]
    rfl
  · obtain ⟨-, heq⟩ := (cleanUp_cases s).resolve_left fun ⟨htx, hbusy, _⟩ => hnone ⟨htx, hbusy⟩
    rw [exec_cleanup, heq]
    rfl

end Sys2Proof.Machine

/-! ## The encoder

The protocol table of the block and the three ENC commands (41_encoder.md). The facts about lookup and waveforms hold in
every legal table and stand with the blocks built with other tables; here they are taken at the default table, which is
legal. -/

namespace Sys2Proof.Machine

/-! ### The default table (00_scope.md R8) -/

theorem wf_protocols : ProtocolTable.wf Config.protocols = true := by decide

theorem mem_protocols_iff (id : Nat) (p : Protocol) :
    (id, p) ∈ Config.protocols ↔ (id = 1 ∧ p = ⟨31, 3⟩) ∨ (id = 2 ∧ p = ⟨10, 2⟩) := by
  simp [Config.protocols]

theorem lookup_protocols_iff (id : Nat) (p : Protocol) :
    lookup Config.protocols id = some p ↔ (id = 1 ∧ p = ⟨31, 3⟩) ∨ (id = 2 ∧ p = ⟨10, 2⟩) :=
  (lookup_eq_some_iff_mem wf_protocols id p).trans (mem_protocols_iff id p)

/-- Settles O27: a legal table is a map, and the default table is legal with two entries. -/
theorem lookupFindsExactlyTheEntries : Obligations.LookupFindsExactlyTheEntries := by
  refine ⟨fun tbl id p hwf => lookup_eq_some_iff_mem hwf id p, wf_protocols,
    (lookup_protocols_iff 1 _).mpr (.inl ⟨rfl, rfl⟩), (lookup_protocols_iff 2 _).mpr (.inr ⟨rfl, rfl⟩),
    fun id hne1 hne2 => lookup_eq_none_of_not_mem fun p hmem => ?_⟩
  rcases (mem_protocols_iff id p).mp hmem with ⟨h1, -⟩ | ⟨h2, -⟩
  · exact hne1 h1
  · exact hne2 h2

/-! ### Waveforms fit the wave registers (41_encoder.md R113) -/

theorem toNat_ofNat_of_le_waveMax {n : Nat} (h : n ≤ 16711425) : (BitVec.ofNat 32 n).toNat = n :=
  (BitVec.toNat_ofNat n 32).trans (Nat.mod_eq_of_lt (by omega))

/-- Settles O28: R113's bound, of the entry that lookup finds, is below 2^32. -/
theorem waveformDurationsFit : Obligations.WaveformDurationsFit := by
  intro tbl id p unit sym hwf hlookup _ hunit
  obtain ⟨hhigh, hlow⟩ := wave_le hwf (mem_of_lookup_eq_some hlookup) hunit sym
  exact ⟨hhigh, hlow, toNat_ofNat_of_le_waveMax hhigh, toNat_ofNat_of_le_waveMax hlow⟩

/-! ### ENC_LOGIC0, ENC_LOGIC1 and ENC_SYNC (41_encoder.md R114 to R116) -/

theorem exec_encInstr (sym : Symbol) (s : State) :
    exec sym.encInstr s = .next (encCommand Config.protocols sym s) := by
  rw [← execUnder_default, execUnder_encInstr]

/-- The pulse is checked before the table is looked at (60_exceptions.md R195). -/
theorem encCheck_of_pulse_zero (tbl : ProtocolTable) {s : State} (h : s.regs.pulseUs = 0#16) :
    encCheck tbl s = .error .invalidArgument :=
  if_pos h

theorem exec_encInstr_of_pulse_zero {s : State} (h : s.regs.pulseUs = 0#16) (sym : Symbol) :
    exec sym.encInstr s = .next (raise .invalidArgument s) := by
  rw [exec_encInstr, encCommand, command_of_error (encCheck_of_pulse_zero _ h)]

theorem exec_encInstr_of_lookup_none {s : State} (hpulse : s.regs.pulseUs ≠ 0#16)
    (h : lookup Config.protocols s.regs.protocol.toNat = none) (sym : Symbol) :
    exec sym.encInstr s = .next (raise .unsupportedProtocol s) := by
  have hnone : ∀ p, (s.regs.protocol.toNat, p) ∉ Config.protocols := fun p hmem =>
    Option.eq_none_iff_forall_ne_some.mp h p ((lookup_eq_some_iff_mem wf_protocols _ p).mpr hmem)
  rw [← execUnder_default, execUnder_encInstr_of_not_mem hpulse hnone]

/-- The wave registers after an accepted ENC command. -/
def waveRegs (p : Protocol) (r : HostRegs) (sym : Symbol) : WaveRegs where
  high := BitVec.ofNat 32 (wave p r.pulseUs.toNat sym).1
  low := BitVec.ofNat 32 (wave p r.pulseUs.toNat sym).2

theorem exec_encInstr_of_lookup_some {s : State} {p : Protocol} (hpulse : s.regs.pulseUs ≠ 0#16)
    (h : lookup Config.protocols s.regs.protocol.toNat = some p) (sym : Symbol) :
    exec sym.encInstr s =
      .next { s with wave := waveRegs p s.regs sym, status := { s.status with err := .ok } } := by
  rw [← execUnder_default, execUnder_encInstr_of_mem wf_protocols hpulse (mem_of_lookup_eq_some h)]
  rfl

/-- The registers hold R112's waveform exactly. -/
theorem waveRegs_toNat {r : HostRegs} {id : Nat} {p : Protocol} (h : lookup Config.protocols id = some p)
    (sym : Symbol) :
    ((waveRegs p r sym).high.toNat, (waveRegs p r sym).low.toNat) = wave p r.pulseUs.toNat sym := by
  obtain ⟨hhigh, hlow⟩ := toNat_ofNat_wave wf_protocols (mem_of_lookup_eq_some h) r sym
  exact Prod.ext hhigh hlow

/-- Settles O29, for one symbol and its instruction: the two failing checks, then the waveform of each symbol. -/
theorem encodeCommandsWriteTheirWaveforms : Obligations.EncodeCommandsWriteTheirWaveforms := by
  intro s i hi
  obtain ⟨sym, rfl⟩ := (mem_encInstrs_iff i).mp hi
  refine ⟨fun hzero => exec_encInstr_of_pulse_zero hzero sym,
    fun hpulse hnone => exec_encInstr_of_lookup_none hpulse hnone sym, fun p hpulse hlookup => ?_⟩
  refine ⟨_, _, exec_encInstr_of_lookup_some hpulse hlookup sym, ?_⟩
  have hwave := waveRegs_toNat (r := s.regs) hlookup sym
  cases sym with
  | logic0 =>
    obtain ⟨hhigh, hlow⟩ := Prod.mk.inj hwave
    exact ⟨fun _ => ⟨decode_cmd_word s.nowUs .encLogic0, hhigh.trans (Nat.one_mul _), hlow⟩, nofun, nofun⟩
  | logic1 =>
    obtain ⟨hhigh, hlow⟩ := Prod.mk.inj hwave
    exact ⟨nofun, fun _ => ⟨decode_cmd_word s.nowUs .encLogic1, hhigh, hlow.trans (Nat.one_mul _)⟩, nofun⟩
  | sync =>
    obtain ⟨hhigh, hlow⟩ := Prod.mk.inj hwave
    exact ⟨nofun, nofun, fun _ => ⟨decode_cmd_word s.nowUs .encSync, hhigh.trans (Nat.one_mul _), hlow⟩⟩

end Sys2Proof.Machine

/-! ## The transmitter

SEND, the pulse train and the segment step (42_transmitter.md). A train is a list of segments, and its facts are facts
about lists: the bits, one repetition, the repetitions. SEND and the segment step have an equation per case, and a run
of due segment steps is followed along the segments that are left. -/

namespace Sys2Proof.Machine

/-! ### The binary code (42_transmitter.md R127) -/

@[simp] theorem length_codeBits (c w : Nat) : (codeBits c w).length = w := by
  induction w with
  | zero => rfl
  | succ w ih => rw [codeBits, List.length_cons, ih]

theorem getElem?_codeBits (c : Nat) {w i : Nat} (h : i < w) : (codeBits c w)[i]? = some (c.testBit (w - 1 - i)) := by
  induction w generalizing i with
  | zero => exact absurd h (Nat.not_lt_zero i)
  | succ w ih =>
    cases i with
    | zero => rfl
    | succ i =>
      have hplace : w + 1 - 1 - (i + 1) = w - 1 - i := by omega
      rw [codeBits, List.getElem?_cons_succ, ih (Nat.lt_of_succ_lt_succ h), hplace]

/-- Reading the bits after a number `v` has been read appends the low `w` bits of the code to it. -/
theorem foldl_codeBits (c w v : Nat) :
    (codeBits c w).foldl (fun v b => 2 * v + b.toNat) v = v * 2 ^ w + c % 2 ^ w := by
  induction w generalizing v with
  | zero => simp [codeBits, Nat.mod_one]
  | succ w ih =>
    rw [codeBits, List.foldl_cons, ih, Nat.mod_pow_succ, Nat.toNat_testBit]
    ring

/-- Settles O33. -/
theorem binaryCodeIsMostSignificantBitFirst : Obligations.BinaryCodeIsMostSignificantBitFirst := by
  refine fun c w => ⟨length_codeBits c w, fun i hi => getElem?_codeBits c hi, fun hfits => ?_⟩
  rw [foldl_codeBits, Nat.zero_mul, Nat.zero_add, Nat.mod_eq_of_lt hfits]

/-! ### One repetition (41_encoder.md R112, 42_transmitter.md R128) -/

/-- The HIGH segment of a bit. -/
def bitHigh (p : Protocol) (unit : Nat) (b : Bool) : Segment := ⟨.high, if b then p.pulseUnits * unit else unit⟩

/-- The LOW segment of a bit. -/
def bitLow (p : Protocol) (unit : Nat) (b : Bool) : Segment := ⟨.low, if b then unit else p.pulseUnits * unit⟩

theorem waveSegments_ofBit (p : Protocol) (unit : Nat) (b : Bool) :
    waveSegments (wave p unit (Symbol.ofBit b)) = [bitHigh p unit b, bitLow p unit b] := by
  cases b <;> simp [waveSegments, wave, Symbol.ofBit, bitHigh, bitLow]

theorem waveSegments_sync (p : Protocol) (unit : Nat) :
    waveSegments (wave p unit .sync) = [⟨.high, unit⟩, ⟨.low, p.syncUnits * unit⟩] := by
  rw [waveSegments, wave, Nat.one_mul]

theorem oneRep_nil (p : Protocol) (unit : Nat) :
    oneRep p unit [] = [⟨.high, unit⟩, ⟨.low, p.syncUnits * unit⟩] :=
  waveSegments_sync p unit

theorem oneRep_cons (p : Protocol) (unit : Nat) (b : Bool) (bits : List Bool) :
    oneRep p unit (b :: bits) = bitHigh p unit b :: bitLow p unit b :: oneRep p unit bits := by
  rw [oneRep, List.flatMap_cons, waveSegments_ofBit]
  rfl

@[simp] theorem length_oneRep (p : Protocol) (unit : Nat) (bits : List Bool) :
    (oneRep p unit bits).length = 2 * bits.length + 2 := by
  induction bits with
  | nil => rfl
  | cons b bits ih =>
    simp only [oneRep_cons, List.length_cons, ih]
    omega

/-- A bit's two segments stand at twice its place. -/
theorem getElem?_oneRep_bit (p : Protocol) (unit : Nat) {bits : List Bool} {i : Nat} {b : Bool}
    (h : bits[i]? = some b) :
    (oneRep p unit bits)[2 * i]? = some (bitHigh p unit b) ∧
      (oneRep p unit bits)[2 * i + 1]? = some (bitLow p unit b) := by
  induction bits generalizing i with
  | nil => cases h
  | cons b' bits ih =>
    rw [oneRep_cons]
    cases i with
    | zero =>
      cases h
      exact ⟨rfl, rfl⟩
    | succ i => exact ih h

/-- The sync ends the repetition. -/
theorem getElem?_oneRep_sync (p : Protocol) (unit : Nat) (bits : List Bool) :
    (oneRep p unit bits)[2 * bits.length]? = some ⟨.high, unit⟩ ∧
      (oneRep p unit bits)[2 * bits.length + 1]? = some ⟨.low, p.syncUnits * unit⟩ := by
  induction bits with
  | nil =>
    rw [oneRep_nil]
    exact ⟨rfl, rfl⟩
  | cons b bits ih =>
    rw [oneRep_cons]
    exact ih

/-- Both logic waveforms last `1 + pulseUnits` units. -/
theorem sum_duration_oneRep (p : Protocol) (unit : Nat) (bits : List Bool) :
    ((oneRep p unit bits).map Segment.duration).sum =
      unit * (bits.length * (1 + p.pulseUnits) + 1 + p.syncUnits) := by
  induction bits with
  | nil =>
    simp only [oneRep_nil, List.map_cons, List.map_nil, List.sum_cons, List.sum_nil, List.length_nil]
    ring
  | cons b bits ih =>
    have hbit : (bitHigh p unit b).duration + (bitLow p unit b).duration = unit * (1 + p.pulseUnits) := by
      cases b <;> simp only [bitHigh, bitLow, if_true, Bool.false_eq_true, if_false] <;> ring
    rw [oneRep_cons, List.map_cons, List.map_cons, List.sum_cons, List.sum_cons, ih, ← Nat.add_assoc, hbit,
      List.length_cons]
    ring

/-! ### The repetitions (42_transmitter.md R128, R139) -/

theorem length_repeated (rep : List Segment) (n : Nat) : (repeated rep n).length = n * rep.length := by
  induction n with
  | zero => rw [Nat.zero_mul, repeated, List.length_nil]
  | succ n ih => rw [repeated, List.length_append, ih, Nat.succ_mul, Nat.add_comm]

theorem sum_duration_repeated (rep : List Segment) (n : Nat) :
    ((repeated rep n).map Segment.duration).sum = n * (rep.map Segment.duration).sum := by
  induction n with
  | zero => rw [Nat.zero_mul, repeated, List.map_nil, List.sum_nil]
  | succ n ih => rw [repeated, List.map_append, List.sum_append, ih, Nat.succ_mul, Nat.add_comm]

theorem getElem?_repeated {rep : List Segment} {n r j : Nat} (hr : r < n) (hj : j < rep.length) :
    (repeated rep n)[r * rep.length + j]? = rep[j]? := by
  induction n generalizing r with
  | zero => exact absurd hr (Nat.not_lt_zero r)
  | succ n ih =>
    rw [repeated]
    cases r with
    | zero => rw [Nat.zero_mul, Nat.zero_add, List.getElem?_append_left hj]
    | succ r =>
      have hplace : (r + 1) * rep.length + j = rep.length + (r * rep.length + j) := by ring
      rw [hplace, List.getElem?_append_right (Nat.le_add_right _ _), Nat.add_sub_cancel_left,
        ih (Nat.lt_of_succ_lt_succ hr)]

theorem mem_of_mem_repeated {rep : List Segment} {n : Nat} {g : Segment} (h : g ∈ repeated rep n) : g ∈ rep := by
  induction n with
  | zero => cases h
  | succ n ih => exact (List.mem_append.mp h).elim id ih

theorem length_pulseTrain (p : Protocol) (c w unit reps : Nat) :
    (pulseTrain p c w unit reps).length = reps * (2 * w + 2) := by
  rw [pulseTrain, length_repeated, length_oneRep, length_codeBits]

theorem getElem?_pulseTrain (p : Protocol) (c w unit : Nat) {reps r j : Nat} (hr : r < reps) (hj : j < 2 * w + 2) :
    (pulseTrain p c w unit reps)[r * (2 * w + 2) + j]? = (oneRep p unit (codeBits c w))[j]? := by
  have hlen : (oneRep p unit (codeBits c w)).length = 2 * w + 2 := by rw [length_oneRep, length_codeBits]
  rw [← hlen] at hj ⊢
  exact getElem?_repeated hr hj

/-- Settles O34: a place in the train is a place in its repetition, where a bit or the sync stands. -/
theorem pulseTrainIsItsRepetitions : Obligations.PulseTrainIsItsRepetitions := by
  intro p c w unit reps r hr
  refine ⟨length_pulseTrain p c w unit reps, fun i hi => ?bit, ?sync⟩
  case bit =>
    obtain ⟨hhigh, hlow⟩ := getElem?_oneRep_bit p unit (getElem?_codeBits c hi)
    rw [Nat.add_assoc _ (2 * i) 1, getElem?_pulseTrain p c w unit hr (by omega),
      getElem?_pulseTrain p c w unit hr (by omega)]
    exact ⟨hhigh, hlow⟩
  case sync =>
    have hsync := getElem?_oneRep_sync p unit (codeBits c w)
    rw [length_codeBits] at hsync
    rw [Nat.add_assoc _ (2 * w) 1, getElem?_pulseTrain p c w unit hr (by omega),
      getElem?_pulseTrain p c w unit hr (by omega)]
    exact hsync

/-- Settles O35: the sizes and lengths of the repetitions add up. -/
theorem pulseTrainSizeAndLength : Obligations.PulseTrainSizeAndLength := by
  refine fun p c w unit reps => ⟨length_pulseTrain p c w unit reps, ?_⟩
  rw [pulseTrain, sum_duration_repeated, sum_duration_oneRep, length_codeBits, Nat.mul_assoc]

/-- Every segment of a train is one of a waveform. -/
theorem mem_pulseTrain {p : Protocol} {c w unit reps : Nat} {g : Segment} (h : g ∈ pulseTrain p c w unit reps) :
    ∃ sym, g ∈ waveSegments (wave p unit sym) := by
  rcases List.mem_append.mp (mem_of_mem_repeated h) with hdata | hsync
  · obtain ⟨b, -, hb⟩ := List.mem_flatMap.mp hdata
    exact ⟨Symbol.ofBit b, hb⟩
  · exact ⟨.sync, hsync⟩

/-- The durations of a train fit the time input: R113's bound is below 2^32. -/
theorem duration_lt_of_mem_trainOf {id : Nat} {p : Protocol} {r : HostRegs}
    (hlookup : lookup Config.protocols id = some p) {g : Segment} (h : g ∈ trainOf p r) : g.duration < 2 ^ 32 := by
  obtain ⟨sym, hsym⟩ := mem_pulseTrain h
  obtain ⟨hhigh, hlow⟩ := wave_le wf_protocols (mem_of_lookup_eq_some hlookup) (pulseUs_le r) sym
  simp only [waveSegments, List.mem_cons, List.not_mem_nil, or_false] at hsym
  rcases hsym with rfl | rfl
  · exact Nat.lt_of_le_of_lt hhigh (by decide)
  · exact Nat.lt_of_le_of_lt hlow (by decide)

/-! ### SEND (42_transmitter.md R125, R129 to R132, 60_exceptions.md R195)

The checks in their order, each reached when those before it passed. -/

theorem sendCheck_of_busy (tbl : ProtocolTable) {s : State} (hbusy : s.status.busy = true) :
    sendCheck tbl s = .error .busy :=
  if_pos hbusy

theorem sendCheck_of_mode_ne_tx (tbl : ProtocolTable) {s : State} (hbusy : s.status.busy = false)
    (hmode : s.status.mode ≠ .tx) : sendCheck tbl s = .error .notEnabled := by
  rw [sendCheck, if_neg (by simp [hbusy]), if_pos hmode]

theorem sendCheck_of_bad_argument (tbl : ProtocolTable) {s : State} (hbusy : s.status.busy = false)
    (hmode : s.status.mode = .tx)
    (hargs : s.regs.bitWidth.toNat = 0 ∨ 33 ≤ s.regs.bitWidth.toNat ∨ s.regs.pulseUs = 0#16) :
    sendCheck tbl s = .error .invalidArgument := by
  rw [sendCheck, if_neg (by simp [hbusy]), if_neg (not_not.mpr hmode)]
  exact if_pos hargs

theorem sendCheck_of_wide_code {tbl : ProtocolTable} {s : State} {p : Protocol} (hbusy : s.status.busy = false)
    (hmode : s.status.mode = .tx) (hw1 : 1 ≤ s.regs.bitWidth.toNat) (hw32 : s.regs.bitWidth.toNat ≤ 32)
    (hpulse : s.regs.pulseUs ≠ 0#16) (hlookup : selectedProtocol tbl s = some p)
    (hwide : 2 ^ s.regs.bitWidth.toNat ≤ s.regs.txCode.toNat) : sendCheck tbl s = .error .codeTooWide := by
  have hargs : ¬(s.regs.bitWidth.toNat = 0 ∨ s.regs.bitWidth.toNat > Config.codeTxW ∨ s.regs.pulseUs = 0#16) := by
    rintro (h | h | h)
    · omega
    · exact absurd hw32 (Nat.not_le.mpr h)
    · exact hpulse h
  rw [sendCheck, if_neg (by simp [hbusy]), if_neg (not_not.mpr hmode), if_neg hargs]
  simp only [hlookup]
  exact if_pos hwide

theorem exec_send_of_check_error {s : State} {e : ErrCode} (h : sendCheck Config.protocols s = .error e) :
    exec .send s = .next (raise e s) := by
  rw [← execUnder_default, execUnder_send_of_check_error h]

theorem exec_send_of_check_ok {s : State} {p : Protocol} (h : sendCheck Config.protocols s = .ok p) :
    exec .send s = .next (succeed (acceptSend p s)) := by
  rw [← execUnder_default, execUnder_send_of_check_ok h]

/-- Settles O30, check by check. -/
theorem sendReportsItsFirstFailingCheck : Obligations.SendReportsItsFirstFailingCheck := fun _ =>
  ⟨fun hbusy => exec_send_of_check_error (sendCheck_of_busy _ hbusy),
    fun hbusy hmode => exec_send_of_check_error (sendCheck_of_mode_ne_tx _ hbusy hmode),
    fun hbusy hmode hargs => exec_send_of_check_error (sendCheck_of_bad_argument _ hbusy hmode hargs),
    fun hbusy hmode hw1 hw32 hpulse hnone =>
      exec_send_of_check_error (sendCheck_eq_unsupported hbusy hmode hw1 hw32 hpulse hnone),
    fun _ hbusy hmode hw1 hw32 hpulse hlookup hwide =>
      exec_send_of_check_error (sendCheck_of_wide_code hbusy hmode hw1 hw32 hpulse hlookup hwide)⟩

theorem trainOf_eq_nil (p : Protocol) {r : HostRegs} (h : r.reps = 0#8) : trainOf p r = [] := by
  rw [trainOf, h]
  rfl

theorem exists_trainOf_eq_cons (p : Protocol) {r : HostRegs} (h : r.reps ≠ 0#8) :
    ∃ g rest, trainOf p r = g :: rest :=
  List.exists_cons_of_ne_nil (pulseTrain_ne_nil p _ _ _ fun h0 => h (BitVec.eq_of_toNat_eq h0))

/-- The state in which SEND's operands are latched and the first segment of its train begins (R125, R126, R129, R131,
R132). -/
def State.trainBegun (s : State) (g : Segment) (left : List Segment) : State :=
  { s with
    tx := { code := s.regs.txCode, width := s.regs.bitWidth, proto := s.regs.protocol, pulse := s.regs.pulseUs,
            reps := s.regs.reps, cur := some g, rest := left, segStart := s.nowUs }
    status := { s.status with busy := true, txAbort := false, err := .ok }
    pins := { s.pins with out := g.level }
    trace := s.trace ++ [g.traced] }

theorem exec_send_of_train {s : State} {p : Protocol} {g : Segment} {left : List Segment}
    (hcheck : sendCheck Config.protocols s = .ok p) (htrain : trainOf p s.regs = g :: left) :
    exec .send s = .next (s.trainBegun g left) := by
  rw [exec_send_of_check_ok hcheck, succeed_acceptSend_of_cons htrain]
  rfl

/-- Settles O31: the checks pass and the train has a first segment. -/
theorem acceptedSendStartsItsTrain : Obligations.AcceptedSendStartsItsTrain := by
  intro s p hbusy hmode hw1 hw32 hpulse hlookup hcode hreps
  have hcheck := (sendCheck_ok_iff Config.protocols s p).mpr ⟨hbusy, hmode, hw1, hw32, hpulse, hlookup, hcode⟩
  obtain ⟨g, rest, htrain⟩ := exists_trainOf_eq_cons p hreps
  exact ⟨g, rest, htrain, exec_send_of_train hcheck htrain⟩

/-- An empty train latches the operands, clears TX_ABORT and leaves nothing to send. -/
theorem succeed_acceptSend_of_nil {p : Protocol} {s : State} (h : trainOf p s.regs = []) :
    succeed (acceptSend p s) =
      { s with
        tx := { code := s.regs.txCode, width := s.regs.bitWidth, proto := s.regs.protocol, pulse := s.regs.pulseUs,
                reps := s.regs.reps, cur := none, rest := [], segStart := s.tx.segStart }
        status := { s.status with txAbort := false, err := .ok } } := by
  rw [acceptSend, h]
  rfl

/-- Settles O32: the checks pass, the train is empty, and BUSY was 0. -/
theorem sendOfZeroRepetitionsSendsNothing : Obligations.SendOfZeroRepetitionsSendsNothing := by
  intro s p hbusy hmode hw1 hw32 hpulse hlookup hcode hreps
  have hcheck := (sendCheck_ok_iff Config.protocols s p).mpr ⟨hbusy, hmode, hw1, hw32, hpulse, hlookup, hcode⟩
  have htrain := trainOf_eq_nil p hreps
  refine ⟨htrain, ?_⟩
  rw [exec_send_of_check_ok hcheck, succeed_acceptSend_of_nil htrain]
  simp only [hbusy]

/-! ### The segment step (42_transmitter.md R133, R134) -/

theorem segmentStep_of_not_busy {s : State} (hbusy : s.status.busy = false) : segmentStep s = s := by
  rcases segmentStep_cases s with h | ⟨_, _, _, htrue, -⟩ | ⟨_, htrue, -⟩
  · exact h
  · exact (not_cleared_of_set htrue hbusy).elim
  · exact (not_cleared_of_set htrue hbusy).elim

theorem segmentOver_iff (s : State) (g : Segment) :
    segmentOver s g = true ↔ g.duration ≤ (s.nowUs - s.tx.segStart).toNat :=
  decide_eq_true_iff

section

variable {s : State} {g : Segment}

theorem segmentStep_of_lt (hcur : s.tx.cur = some g) (hearly : (s.nowUs - s.tx.segStart).toNat < g.duration) :
    segmentStep s = s := by
  have hover : ¬segmentOver s g = true := fun h => Nat.not_le.mpr hearly ((segmentOver_iff s g).mp h)
  simp [segmentStep, hcur, hover]

theorem segmentStep_of_le_cons (hbusy : s.status.busy = true) (hcur : s.tx.cur = some g)
    (hlate : g.duration ≤ (s.nowUs - s.tx.segStart).toNat) {next : Segment} {rest : List Segment}
    (hrest : s.tx.rest = next :: rest) : segmentStep s = beginSegment next rest s := by
  simp [segmentStep, hcur, hbusy, (segmentOver_iff s g).mpr hlate, hrest]

theorem segmentStep_of_le_nil (hbusy : s.status.busy = true) (hcur : s.tx.cur = some g)
    (hlate : g.duration ≤ (s.nowUs - s.tx.segStart).toNat) (hrest : s.tx.rest = []) :
    segmentStep s = endOfTrain s := by
  simp [segmentStep, hcur, hbusy, (segmentOver_iff s g).mpr hlate, hrest]

end

/-- Settles O36, case by case of the segment step. -/
theorem segmentStepDrivesTheTrain : Obligations.SegmentStepDrivesTheTrain := fun _ _ hbusy hcur =>
  ⟨segmentStep_of_lt hcur, fun _ _ hlate hrest => segmentStep_of_le_cons hbusy hcur hlate hrest,
    segmentStep_of_le_nil hbusy hcur⟩

/-! ### With no train running (42_transmitter.md R136) -/

/-- Only SEND starts a train; of the other commands only CLEANUP writes the trace, with a release. -/
theorem CommandEffect.starts_no_train {s u : State} {c : Command} (hu : CommandEffect s c u) (hc : c ≠ .send)
    (hbusy : s.status.busy = false) :
    (u.trace = s.trace ∨ u.trace = s.trace ++ [.release]) ∧ u.status.busy = false := by
  cases hu with
  | nop | encLogic0 | encLogic1 | encSync => exact ⟨.inl rfl, hbusy⟩
  | send => exact absurd rfl hc
  | txEnable => rcases enableTx_cases s with ⟨-, h⟩ | ⟨-, h⟩ <;> rw [h] <;> exact ⟨.inl rfl, hbusy⟩
  | rxEnable => rcases enableRx_cases s with ⟨-, h⟩ | ⟨-, h⟩ <;> rw [h] <;> exact ⟨.inl rfl, hbusy⟩
  | rxDisable => rcases disableRx_cases s with ⟨-, h⟩ | ⟨-, h⟩ <;> rw [h] <;> exact ⟨.inl rfl, hbusy⟩
  | txDisable =>
    rcases disableTx_cases s with ⟨-, h⟩ | ⟨-, htrue, -⟩ | ⟨-, -, h⟩
    · rw [h]
      exact ⟨.inl rfl, hbusy⟩
    · exact (not_cleared_of_set htrue hbusy).elim
    · rw [h]
      exact ⟨.inl rfl, hbusy⟩
  | cleanup =>
    rcases cleanUp_cases s with ⟨-, htrue, -⟩ | ⟨-, h⟩
    · exact (not_cleared_of_set htrue hbusy).elim
    · rw [h]
      exact ⟨.inr rfl, hbusy⟩

theorem captureEdge_busy (ts : Word) (s : State) : (captureEdge ts s).status.busy = s.status.busy := by
  rcases captureEdge_cases ts s with ⟨-, h⟩ | ⟨-, -, h⟩ | ⟨-, -, h⟩ <;> rw [h]

theorem InstrEffect.starts_no_train {s t : State} {i : Instr} (h : InstrEffect s i t) (hsend : i ≠ .send)
    (hcmd : i ≠ .regWrite .cmd 0x5#32) (hbusy : s.status.busy = false) :
    (t.trace = s.trace ∨ t.trace = s.trace ++ [.release]) ∧ t.status.busy = false := by
  cases h with
  | rejected | regRead | regWrite => exact ⟨.inl rfl, hbusy⟩
  | @accepted _ c u hi hu =>
    have hc : c ≠ .send := by
      rintro rfl
      exact hi.elim hsend hcmd
    exact hu.starts_no_train hc hbusy
  | edge ts => exact ⟨.inl (captureEdge_trace ts s), (captureEdge_busy ts s).trans hbusy⟩

theorem publishIfAny_tx (r : Option DecodedResult) (s : State) : (publishIfAny r s).tx = s.tx := by
  cases r <;> rfl

theorem processEdge_tx (s : State) : (processEdge s).tx = s.tx := by
  rcases processEdge_publishes s with h | ⟨ts, rest, d, r, -, -, h⟩
  · rw [h]
  · rw [h, publishIfAny_tx]

/-- Settles O38, for the instructions and the two internal operations. -/
theorem onlySendStartsATrain : Obligations.OnlySendStartsATrain :=
  ⟨fun _ _ _ hbusy hsend hcmd hexec => (instrEffect_of_exec hexec).starts_no_train hsend hcmd hbusy,
    fun s => ⟨segmentStep_of_not_busy, processEdge_trace s, processEdge_tx s⟩⟩

/-! ### A train left alone (42_transmitter.md R132 to R134; log 1, log 7) -/

theorem run_succ_of_step {s t : State} (h : step s = .next t) (k : Nat) :
    Sys2Proof.core.run (k + 1) s = Sys2Proof.core.run k t := by
  have hstep : Sys2Proof.core.step s = .next t := h
  simp only [Host.Core.run, hstep]

/-- The state after the segments `left` have followed the one on the pin and the train is over. -/
def State.afterTrain (s : State) (left : List Segment) (lastStart now : Word) : State :=
  { s with
    status := { s.status with busy := false }
    tx := { s.tx with cur := none, rest := [], segStart := lastStart }
    pins := { s.pins with out := .low }
    trace := s.trace ++ left.map Segment.traced
    nowUs := now
    pending := [] }

/-- Beginning a segment moves it from what is left to the trace. -/
theorem afterTrain_beginSegment (g : Segment) (left : List Segment) (s : State) (lastStart now : Word) :
    (beginSegment g left s).afterTrain left lastStart now = s.afterTrain (g :: left) lastStart now := by
  have htrace : (s.trace ++ [g.traced]) ++ left.map Segment.traced = s.trace ++ (g :: left).map Segment.traced := by
    rw [List.append_assoc, List.map_cons, List.singleton_append]
  unfold State.afterTrain
  rw [← htrace]
  rfl

theorem endOfTrain_eq_afterTrain {s : State} (hrest : s.tx.rest = []) (hpending : s.pending = []) :
    endOfTrain s = s.afterTrain [] s.tx.segStart s.nowUs := by
  simp [endOfTrain, State.afterTrain, hrest, hpending]

/-- What the segment step sees that is due when the segment `g` on the pin is over, with `left` to follow. -/
def State.whenDue (s : State) (g : Segment) (left : List Segment) : State :=
  { s with
    nowUs := s.tx.segStart + BitVec.ofNat 32 g.duration
    pending := dueSteps (s.tx.segStart + BitVec.ofNat 32 g.duration) left }

theorem step_dueSteps {s : State} {g : Segment} {left : List Segment}
    (hpending : s.pending = dueSteps s.tx.segStart (g :: left)) :
    step s = .next (segmentStep (s.whenDue g left)) :=
  step_eq_perform hpending rfl

/-- A due step finds its segment over. -/
theorem duration_le_whenDue {g : Segment} (hfits : g.duration < 2 ^ 32) (s : State) (left : List Segment) :
    g.duration ≤ ((s.whenDue g left).nowUs - (s.whenDue g left).tx.segStart).toNat := by
  have helapsed : (s.whenDue g left).nowUs - (s.whenDue g left).tx.segStart = BitVec.ofNat 32 g.duration :=
    add_sub_cancel_left s.tx.segStart _
  rw [helapsed, BitVec.toNat_ofNat, Nat.mod_eq_of_lt hfits]

/-- Due segment steps send what is left of a train: each begins the next segment, and the last one ends the train. -/
theorem run_dueSteps {s : State} {g : Segment} {left : List Segment} (hbusy : s.status.busy = true)
    (hcur : s.tx.cur = some g) (hrest : s.tx.rest = left) (hfits : ∀ g' ∈ g :: left, g'.duration < 2 ^ 32)
    (hpending : s.pending = dueSteps s.tx.segStart (g :: left)) :
    ∃ lastStart now, Sys2Proof.core.run (left.length + 1) s = .next (s.afterTrain left lastStart now) := by
  induction left generalizing s g with
  | nil =>
    have hlate := duration_le_whenDue (hfits g List.mem_cons_self) s []
    have hend : segmentStep (s.whenDue g []) = (s.whenDue g []).afterTrain [] _ _ :=
      (segmentStep_of_le_nil (s := s.whenDue g []) hbusy hcur hlate hrest).trans
        (endOfTrain_eq_afterTrain (s := s.whenDue g []) hrest rfl)
    exact ⟨_, _, run_succ_of_step ((step_dueSteps hpending).trans (congrArg _ hend)) 0⟩
  | cons next left ih =>
    obtain ⟨hfitsHead, hfitsLeft⟩ := List.forall_mem_cons.mp hfits
    have hbegin : segmentStep (s.whenDue g (next :: left)) = beginSegment next left (s.whenDue g (next :: left)) :=
      segmentStep_of_le_cons (s := s.whenDue g (next :: left)) hbusy hcur
        (duration_le_whenDue hfitsHead s (next :: left)) hrest
    obtain ⟨lastStart, now, hrun⟩ :=
      ih (s := beginSegment next left (s.whenDue g (next :: left))) hbusy rfl rfl hfitsLeft rfl
    refine ⟨lastStart, now, ?_⟩
    rw [List.length_cons, run_succ_of_step ((step_dueSteps hpending).trans (congrArg _ hbegin)), hrun,
      afterTrain_beginSegment]
    rfl

/-- Settles O37: SEND begins the train's first segment at the time it sees, and the due steps send the rest. -/
theorem aTrainLeftAloneIsSentWhole : Obligations.ATrainLeftAloneIsSentWhole := by
  intro s p now hbusy hmode hw1 hw32 hpulse hlookup hcode hreps hpending
  have hcheck := (sendCheck_ok_iff Config.protocols s p).mpr ⟨hbusy, hmode, hw1, hw32, hpulse, hlookup, hcode⟩
  have hfits : ∀ g ∈ trainOf p s.regs, g.duration < 2 ^ 32 := fun g => duration_lt_of_mem_trainOf hlookup
  obtain ⟨g, left, htrain⟩ := exists_trainOf_eq_cons p hreps
  rw [htrain] at hpending hfits ⊢
  have hsend : step s = .next (State.trainBegun { s with nowUs := now, pending := dueSteps now (g :: left) } g left) :=
    (aStepRunsTheDecodedInstruction s _ _ _ .send hpending rfl rfl (decode_cmd_word now .send)).trans
      (exec_send_of_train hcheck htrain)
  obtain ⟨lastStart, last, hrun⟩ :=
    run_dueSteps (s := State.trainBegun { s with nowUs := now, pending := dueSteps now (g :: left) } g left)
      rfl rfl rfl hfits rfl
  refine ⟨_, (run_succ_of_step hsend _).trans hrun, ?_, rfl, rfl, rfl, rfl, rfl, rfl, rfl, rfl, rfl, rfl, rfl⟩
  exact List.append_assoc s.trace [g.traced] (left.map Segment.traced)

end Sys2Proof.Machine

/-! ## The comparator

The comparators on mathematical integers (43_comparator.md). The pulse comparator is the basic one at the tolerance
`(ud * pct) // 100`, so the durations it accepts are an interval around `k * ud`, its window; what the rules say of two
windows is a fact about two intervals of the same tolerance. -/

namespace Sys2Proof.Machine

/-! ### Distance and the basic comparator (43_comparator.md R145, R148) -/

/-- The model's distance is the absolute value on integers (00_scope.md R13). -/
theorem natCast_distance (obs exp : Nat) : (distance obs exp : ℤ) = |(obs : ℤ) - (exp : ℤ)| :=
  Int.natCast_natAbs _

theorem distance_eq_zero_iff (obs exp : Nat) : distance obs exp = 0 ↔ obs = exp := by
  rw [distance, Int.natAbs_eq_zero, Int.sub_eq_zero, Int.natCast_inj]

theorem within_iff_abs_le (obs exp tol : Nat) : within obs exp tol = true ↔ |(obs : ℤ) - (exp : ℤ)| ≤ (tol : ℤ) := by
  rw [within, decide_eq_true_iff, ← natCast_distance, Int.ofNat_le]

/-- The window of the basic comparator: the interval of radius `tol` around `exp`. -/
theorem within_iff_window (obs exp tol : Nat) : within obs exp tol = true ↔ exp ≤ obs + tol ∧ obs ≤ exp + tol := by
  rw [within_iff_abs_le, abs_le]
  omega

theorem syncRepeats_iff (d first : Nat) : syncRepeats d first = true ↔ |(d : ℤ) - (first : ℤ)| ≤ 200 :=
  within_iff_abs_le d first Config.syncMatchWin

/-- Two windows of one tolerance meet exactly when the upper one begins where the lower one has not yet ended. -/
theorem exists_within_both_iff {low high : Nat} (tol : Nat) (h : low ≤ high) :
    (∃ x, within x low tol = true ∧ within x high tol = true) ↔ high ≤ low + 2 * tol := by
  simp only [within_iff_window]
  constructor
  · rintro ⟨x, ⟨-, hend⟩, hbegin, -⟩
    omega
  · intro hmeet
    exact ⟨low + tol, ⟨by omega, le_rfl⟩, by omega, by omega⟩

/-! ### The pulse comparator (43_comparator.md R146, R149) -/

theorem pulseMatch_iff (obs k ud pct : Nat) :
    pulseMatch obs k ud pct = true ↔ 100 * distance obs (k * ud) ≤ ud * pct := decide_eq_true_iff

theorem pulseMatch_iff_abs_le (obs k ud pct : Nat) :
    pulseMatch obs k ud pct = true ↔ 100 * |(obs : ℤ) - (k : ℤ) * ud| ≤ (ud : ℤ) * pct := by
  rw [pulseMatch_iff, ← Int.natCast_mul k ud, ← natCast_distance]
  norm_cast

/-- The two forms of R146 agree: the distance is an integer, so the division loses nothing. -/
theorem pulseMatch_eq_within (obs k ud pct : Nat) :
    pulseMatch obs k ud pct = within obs (k * ud) (ud * pct / 100) := by
  have hforms : 100 * distance obs (k * ud) ≤ ud * pct ↔ distance obs (k * ud) ≤ ud * pct / 100 := by
    rw [Nat.le_div_iff_mul_le (by decide), Nat.mul_comm]
  exact decide_eq_decide.mpr hforms

/-- Without tolerance only the exact multiple of the unit matches. -/
theorem pulseMatch_iff_eq_of_no_tolerance {ud pct : Nat} (h : ud * pct = 0) (obs k : Nat) :
    pulseMatch obs k ud pct = true ↔ obs = k * ud := by
  rw [pulseMatch_iff, h, ← distance_eq_zero_iff]
  omega

theorem pulseMatch_zero_pct (obs k ud : Nat) : pulseMatch obs k ud 0 = true ↔ obs = k * ud :=
  pulseMatch_iff_eq_of_no_tolerance (Nat.mul_zero ud) obs k

theorem pulseMatch_zero_ud (obs k pct : Nat) : pulseMatch obs k 0 pct = true ↔ obs = 0 :=
  pulseMatch_iff_eq_of_no_tolerance (Nat.zero_mul pct) obs k

/-! ### The classifier (43_comparator.md R147, R149) -/

theorem classify_eq (pu ud pct a b : Nat) :
    classify pu ud pct a b =
      if pulseMatch a 1 ud pct = true ∧ pulseMatch b pu ud pct = true then PairClass.bit0
      else if pulseMatch a pu ud pct = true ∧ pulseMatch b 1 ud pct = true then PairClass.bit1
      else PairClass.invalid := rfl

theorem classify_of_bit0 {pu ud pct a b : Nat} (ha : pulseMatch a 1 ud pct = true)
    (hb : pulseMatch b pu ud pct = true) : classify pu ud pct a b = .bit0 := by
  rw [classify_eq, if_pos ⟨ha, hb⟩]

/-- At `ud = 0` the BIT1 test is the BIT0 test, so no pair is BIT1. -/
theorem classify_zero_ud (pu pct a b : Nat) :
    classify pu 0 pct a b = if a = 0 ∧ b = 0 then PairClass.bit0 else PairClass.invalid := by
  simp only [classify_eq, pulseMatch_zero_ud]
  by_cases hzero : a = 0 ∧ b = 0
  · rw [if_pos hzero, if_pos hzero]
  · rw [if_neg hzero, if_neg hzero, if_neg hzero]

theorem unitEstimate_eq_zero {d : Decoder} {p : Protocol} (h : (d.entry 0).toNat < p.syncUnits) :
    unitEstimate d p = 0 := Nat.div_eq_of_lt h

/-! ### The short and the long window (43_comparator.md R150) -/

theorem exists_short_and_long_iff {pu : Nat} (hpu : 1 ≤ pu) (ud pct : Nat) :
    (∃ x, pulseMatch x 1 ud pct = true ∧ pulseMatch x pu ud pct = true) ↔ (pu - 1) * ud ≤ 2 * (ud * pct / 100) := by
  have hshort_le : 1 * ud ≤ pu * ud := Nat.mul_le_mul_right ud hpu
  simp only [pulseMatch_eq_within]
  rw [exists_within_both_iff _ hshort_le, Nat.sub_mul, Nat.sub_le_iff_le_add']

/-- At 20 percent both tolerances together are less than one unit, and the windows are at least one unit apart. -/
theorem no_short_and_long_at_20 {pu ud : Nat} (hpu : 2 ≤ pu) (hud : 1 ≤ ud) :
    ¬∃ x, pulseMatch x 1 ud 20 = true ∧ pulseMatch x pu ud 20 = true := by
  rw [exists_short_and_long_iff (Nat.le_of_succ_le hpu)]
  have hapart : ud ≤ (pu - 1) * ud := Nat.le_mul_of_pos_left ud (Nat.sub_pos_of_lt hpu)
  omega

theorem two_le_pulseUnits_of_mem_protocols : ∀ e ∈ Config.protocols, 2 ≤ e.2.pulseUnits := by decide

/-- Settles O40: each comparator has its form on integers, and the classifier is its two tests in order. -/
theorem comparatorsAreInclusiveAndBitZeroComesFirst : Obligations.ComparatorsAreInclusiveAndBitZeroComesFirst :=
  fun obs exp tol k pu ud pct a b =>
    ⟨within_iff_abs_le obs exp tol, syncRepeats_iff obs exp, pulseMatch_iff_abs_le obs k ud pct,
      pulseMatch_eq_within obs k ud pct, classify_eq pu ud pct a b⟩

/-- Settles O42: the windows are two intervals of one tolerance, `(pu - 1) * ud` apart. -/
theorem overlapOfTheTwoWindows : Obligations.OverlapOfTheTwoWindows := fun _ ud pct hpu =>
  ⟨exists_short_and_long_iff hpu ud pct, fun _ => classify_of_bit0, no_short_and_long_at_20,
    two_le_pulseUnits_of_mem_protocols⟩

/-- Settles O41: with `pct = 0` or `ud = 0` the tolerance is 0, and at `ud = 0` every expected duration is 0 too. -/
theorem degenerateComparatorInputs : Obligations.DegenerateComparatorInputs := fun obs k ud pct pu a b =>
  ⟨pulseMatch_zero_pct obs k ud, pulseMatch_zero_ud obs k pct, classify_zero_ud pu pct a b,
    fun _ _ => unitEstimate_eq_zero⟩

end Sys2Proof.Machine

/-! ## The decoder

Capture and processing of edges, the decoder step and the decode attempts (44_decoder.md). The step has an equation per
case; the accumulator is followed along the pairs of the window; the decode is the first success along the table. -/

namespace Sys2Proof.Machine

/-! ### Taking the other operations (44_decoder.md R154, 42_transmitter.md R133, 30_encoding.md R76) -/

/-- A carrier that decodes to nothing only reports ILLEGAL_COMMAND. -/
theorem perform_port_of_decode_error {s : State} {c : Carrier} {w : Word}
    (herror : decode s.nowUs c = .error (.illegalCommand w)) :
    perform (.port c) s = .next (raise .illegalCommand s) := by
  show present c s = _
  rcases present_cases c s with ⟨i, hi, -⟩ | ⟨-, -, heq⟩
  · cases herror.symm.trans hi
  · exact heq

/-- Settles O8: a step performs the operation at the head of the list, and waits at an empty one. -/
theorem aStepTakesTheOtherOperations : Obligations.AStepTakesTheOtherOperations := by
  intro s now rest
  refine ⟨fun hpending => step_eq_perform hpending rfl, fun hpending => step_eq_perform hpending rfl,
    fun w hpending herror => ?_, fun hempty => ?_⟩
  · exact (step_eq_perform hpending rfl).trans
      (perform_port_of_decode_error (s := { s with nowUs := now, pending := rest }) herror)
  · rcases step_cases s with ⟨-, hwait⟩ | ⟨e, rest', hcons, -⟩ | ⟨e, rest', hcons, -⟩
    · exact hwait
    · cases hempty.symm.trans hcons
    · cases hempty.symm.trans hcons

/-! ### Capture and processing of edges (44_decoder.md R154, R176, R177) -/

theorem exec_edge (ts : Word) (s : State) : exec (.edge ts) s = .next (captureEdge ts s) := rfl

/-- Settles O43: the three cases of the capture exclude each other. -/
theorem edgeCaptureQueuesDropsOrIgnores : Obligations.EdgeCaptureQueuesDropsOrIgnores := by
  intro ts s
  refine ⟨rfl, Nat.succ_pos _, ?_⟩
  rw [exec_edge]
  rcases captureEdge_cases ts s with ⟨hmode, heq⟩ | ⟨hmode, hfull, heq⟩ | ⟨hmode, hroom, heq⟩ <;> rw [heq]
  · exact ⟨fun _ => rfl, fun hrx => absurd hrx hmode, fun hrx => absurd hrx hmode⟩
  · exact ⟨fun hrx => absurd hmode hrx, fun _ _ => rfl, fun _ hroom => absurd hfull hroom⟩
  · exact ⟨fun hrx => absurd hmode hrx, fun _ hfull => absurd hfull hroom, fun _ _ => rfl⟩

/-- A publication writes the result registers and RX_VALID. -/
theorem publish_eq (r : DecodedResult) (s : State) :
    publish r s =
      { s with result := r.toRegs (s.result.seqCount + 1#32), status := { s.status with rxValid := true } } := by
  rw [← publish_result]
  rfl

theorem processEdge_cons {s : State} {ts : Word} {waiting : List Word} {d : Decoder} {o : Option DecodedResult}
    (hfifo : s.efifo = ts :: waiting)
    (hstep : decoderStep Config.protocols s.regs.tolPct.toNat ts s.decoder = (d, o)) :
    processEdge s = publishIfAny o { s with efifo := waiting, decoder := d } := by
  rw [processEdge, processEdgeUnder_cons Config.protocols hfifo, hstep]

/-- Settles O44: processing publishes what the decoder step gives, if anything. -/
theorem processingTakesTheOldestEdge : Obligations.ProcessingTakesTheOldestEdge := by
  intro s ts waiting d hfifo
  refine ⟨fun hnone => processEdge_cons hfifo hnone, fun r hsome => ?_⟩
  rw [processEdge_cons hfifo hsome, publishIfAny_some, publish_eq]
  rfl

/-! ### The decoder step, an equation per case (44_decoder.md R155 to R165) -/

theorem isGap_iff (dur : Word) : isGap dur = true ↔ 5000 < dur.toNat := decide_eq_true_iff

theorem isGap_eq_false_iff (dur : Word) : isGap dur = false ↔ dur.toNat ≤ 5000 := by
  rw [← Bool.not_eq_true, isGap_iff, Nat.not_lt]

theorem isRepeat_iff (dur : Word) (d : Decoder) :
    isRepeat dur d = true ↔ 0 < d.changeCount ∧ |(dur.toNat : ℤ) - ((d.entry 0).toNat : ℤ)| ≤ 200 := by
  rw [isRepeat, Bool.and_eq_true, decide_eq_true_iff, syncRepeats_iff]

/-- The decoder after a gap, whose duration begins the new window; the repeat count is still to be settled. -/
def Decoder.restarted (d : Decoder) (ts dur : Word) : Decoder :=
  { d with lastTs := ts, T := d.T.setIfInBounds 0 dur, changeCount := 1 }

/-! The decode attempts read the timing buffer and nothing else of the decoder. -/

theorem entry_congr {d d' : Decoder} (hT : d.T = d'.T) (i : Nat) : d.entry i = d'.entry i := by
  rw [Decoder.entry, Decoder.entry, hT]

theorem unitEstimate_congr {d d' : Decoder} (hT : d.T = d'.T) (p : Protocol) :
    unitEstimate d p = unitEstimate d' p := by
  rw [unitEstimate, unitEstimate, entry_congr hT]

theorem accAfter_congr {d d' : Decoder} (hT : d.T = d'.T) (p : Protocol) (pct k : Nat) :
    accAfter d p pct k = accAfter d' p pct k := by
  induction k with
  | zero => rfl
  | succ k ih =>
    rw [accAfter, accAfter, ih, pairClass, pairClass, unitEstimate_congr hT, entry_congr hT, entry_congr hT]

theorem attempt_congr {d d' : Decoder} (hT : d.T = d'.T) (pct n : Nat) (ts : Word) (id : Nat) (p : Protocol) :
    attempt d pct n ts id p = attempt d' pct n ts id p := by
  rw [attempt, attempt, attemptCode, attemptCode, accAfter_congr hT, unitEstimate_congr hT]

theorem decodeWindow_congr {d d' : Decoder} (hT : d.T = d'.T) (tbl : ProtocolTable) (pct n : Nat) (ts : Word) :
    decodeWindow tbl d pct n ts = decodeWindow tbl d' pct n ts := by
  induction tbl with
  | nil => rfl
  | cons e rest ih => rw [decodeWindow, decodeWindow, attempt_congr hT, ih]

section

variable (tbl : ProtocolTable) (pct : Nat) {ts dur : Word} {d : Decoder}

theorem decoderStep_of_syncTest (hdur : ts - d.lastTs = dur) {d' : Decoder} {o : Option DecodedResult}
    (hsync : syncTest tbl pct ts dur { d with lastTs := ts } = (d', o)) :
    decoderStep tbl pct ts d = (storeDuration dur (overflowTest d'), o) := by
  subst hdur
  have hsync' : syncTest tbl pct ts (eventDuration ts d) { d with lastTs := ts } = (d', o) := hsync
  rw [decoderStep, hsync']
  rfl

theorem decoderStep_of_no_gap (hdur : ts - d.lastTs = dur) (hshort : dur.toNat ≤ 5000) :
    decoderStep tbl pct ts d = (storeDuration dur (overflowTest { d with lastTs := ts }), none) := by
  refine decoderStep_of_syncTest tbl pct hdur ?_
  rw [syncTest, (isGap_eq_false_iff dur).mpr hshort]
  rfl

theorem decoderStep_of_room (hdur : ts - d.lastTs = dur) (hshort : dur.toNat ≤ 5000) (hroom : d.changeCount < 68) :
    decoderStep tbl pct ts d = (storeDuration dur { d with lastTs := ts }, none) := by
  rw [decoderStep_of_no_gap tbl pct hdur hshort]
  rcases overflowTest_cases { d with lastTs := ts } with ⟨-, heq⟩ | ⟨hfull, -⟩
  · rw [heq]
  · exact absurd hroom (Nat.not_lt.mpr hfull)

theorem decoderStep_of_full (hdur : ts - d.lastTs = dur) (hshort : dur.toNat ≤ 5000) (hfull : 68 ≤ d.changeCount) :
    decoderStep tbl pct ts d = ({ d.restarted ts dur with repeatCount := 0 }, none) := by
  rw [decoderStep_of_no_gap tbl pct hdur hshort]
  rcases overflowTest_cases { d with lastTs := ts } with ⟨hroom, -⟩ | ⟨-, heq⟩
  · exact absurd hroom (Nat.not_lt.mpr hfull)
  · rw [heq]
    rfl

theorem decoderStep_of_no_repeat (hdur : ts - d.lastTs = dur) (hgap : 5000 < dur.toNat)
    (hrepeat : isRepeat dur d = false) :
    decoderStep tbl pct ts d = (d.restarted ts dur, none) := by
  refine decoderStep_of_syncTest tbl pct hdur (d' := { d with lastTs := ts, changeCount := 0 }) ?_
  have hrepeat' : isRepeat dur { d with lastTs := ts } = false := hrepeat
  rw [syncTest, if_pos ((isGap_iff dur).mpr hgap), hrepeat']
  rfl

theorem decoderStep_of_first_repeat (hdur : ts - d.lastTs = dur) (hgap : 5000 < dur.toNat)
    (hrepeat : isRepeat dur d = true) (hcount : d.repeatCount ≠ 1) :
    decoderStep tbl pct ts d = ({ d.restarted ts dur with repeatCount := d.repeatCount + 1 }, none) := by
  refine decoderStep_of_syncTest tbl pct hdur
    (d' := { d with lastTs := ts, changeCount := 0, repeatCount := d.repeatCount + 1 }) ?_
  have hrepeat' : isRepeat dur { d with lastTs := ts } = true := hrepeat
  have hne : ¬d.repeatCount + 1 = Config.repeatsToDecode := fun h => hcount (Nat.succ.inj h)
  simp only [syncTest, repeatStep, if_pos ((isGap_iff dur).mpr hgap), hrepeat', if_true, if_neg hne]

theorem decoderStep_of_second_repeat (hdur : ts - d.lastTs = dur) (hgap : 5000 < dur.toNat)
    (hrepeat : isRepeat dur d = true) (hcount : d.repeatCount = 1) :
    decoderStep tbl pct ts d =
      ({ d.restarted ts dur with repeatCount := 0 }, decodeWindow tbl d pct (d.changeCount - 1) ts) := by
  refine decoderStep_of_syncTest tbl pct hdur (d' := { d with lastTs := ts, changeCount := 0, repeatCount := 0 }) ?_
  have hrepeat' : isRepeat dur { d with lastTs := ts } = true := hrepeat
  have htwo : d.repeatCount + 1 = Config.repeatsToDecode := congrArg (· + 1) hcount
  simp only [syncTest, repeatStep, if_pos ((isGap_iff dur).mpr hgap), hrepeat', if_true, if_pos htwo]
  refine congrArg _ (decodeWindow_congr ?_ tbl pct (d.changeCount - 1) ts)
  rfl

end

/-- Settles O45, case by case of the decoder step. -/
theorem decoderStepByCases : Obligations.DecoderStepByCases := by
  intro tbl pct ts d
  refine ⟨decoderStep_of_room tbl pct rfl, decoderStep_of_full tbl pct rfl, fun hgap hno => ?_,
    fun hgap hcount hnear => ?_, fun hgap hcount hnear => ?_⟩
  · exact decoderStep_of_no_repeat tbl pct rfl hgap (Bool.not_eq_true _ ▸ mt (isRepeat_iff _ d).mp hno)
  · exact decoderStep_of_first_repeat tbl pct rfl hgap ((isRepeat_iff _ d).mpr ⟨hcount, hnear⟩)
  · exact decoderStep_of_second_repeat tbl pct rfl hgap ((isRepeat_iff _ d).mpr ⟨hcount, hnear⟩)

/-! ### Who changes the decoder and the result (44_decoder.md R180, R184) -/

/-- A decoder step gives a result only at a gap that repeats for the second time. -/
theorem confirmed_of_decoderStep_eq_some {tbl : ProtocolTable} {pct : Nat} {ts : Word} {d : Decoder}
    {r : DecodedResult} (h : (decoderStep tbl pct ts d).2 = some r) :
    5000 < (ts - d.lastTs).toNat ∧ isRepeat (ts - d.lastTs) d = true ∧ d.repeatCount = 1 := by
  have hsync : (syncTest tbl pct ts (ts - d.lastTs) { d with lastTs := ts }).2 = some r := h
  rcases syncTest_cases tbl pct ts (ts - d.lastTs) { d with lastTs := ts } with
    ⟨-, heq⟩ | ⟨-, -, heq⟩ | ⟨-, -, -, heq⟩ | ⟨hgap, hrepeat, htwo, -⟩
  · cases (congrArg Prod.snd heq).symm.trans hsync
  · cases (congrArg Prod.snd heq).symm.trans hsync
  · cases (congrArg Prod.snd heq).symm.trans hsync
  · exact ⟨(isGap_iff _).mp hgap, hrepeat, Nat.succ.inj htwo⟩

/-- Settles O50: only edge processing publishes, and the decoder step then met a confirmed gap. -/
theorem onlyAConfirmedGapPublishes : Obligations.OnlyAConfirmedGapPublishes := by
  intro s t e rest hpending hrst hstep hchanged
  rcases perform_result ((step_eq_perform hpending hrst).symm.trans hstep) with
    ⟨hkept, -⟩ | ⟨ts, waiting, r, hop, hfifo, hresult, -⟩
  · exact absurd hkept hchanged
  · obtain ⟨hgap, hrepeat, hcount⟩ := confirmed_of_decoderStep_eq_some hresult
    obtain ⟨hchange, hnear⟩ := (isRepeat_iff _ _).mp hrepeat
    exact ⟨hop, hcount, hchange, ts, waiting, hfifo, hgap, hnear⟩

theorem segmentStep_decoder (s : State) : (segmentStep s).decoder = s.decoder := by
  rcases segmentStep_cases s with h | ⟨g, next, rest, -, -, -, -, h⟩ | ⟨g, -, -, -, -, h⟩ <;> simp [h]

/-- Settles O52: an instruction puts whatever decoder it finds into the state after it, its own among them. -/
theorem onlyEdgeProcessingChangesTheDecoder : Obligations.OnlyEdgeProcessingChangesTheDecoder := by
  refine ⟨fun i s t hexec => ?_, segmentStep_decoder⟩
  have hown : exec i s = .next { t with decoder := s.decoder } := theDecoderIsHiddenFromTheHost i s t s.decoder hexec
  rw [Host.Outcome.next.inj (hexec.symm.trans hown)]

/-! ### The accumulator and the code (44_decoder.md R170, R172) -/

theorem accumulate_bit0 (v : Nat) : accumulate (2 * v) .bit0 = 2 * (2 * v) := by
  rw [accumulate, Nat.shiftLeft_eq]
  omega

theorem accumulate_bit1 (v : Nat) : accumulate (2 * v) .bit1 = 2 * (2 * v + 1) := by
  have hor : 2 * v ||| 1 = 2 * v + 1 := (Nat.two_pow_add_eq_or_of_lt (i := 1) Nat.one_lt_two v).symm
  rw [accumulate, hor, Nat.shiftLeft_eq]
  omega

theorem accumulate_mod_two (acc : Nat) (c : PairClass) : accumulate acc c % 2 = 0 := by
  cases c <;> simp only [accumulate, Nat.shiftLeft_eq] <;> omega

theorem accAfter_mod_two (d : Decoder) (p : Protocol) (pct k : Nat) : accAfter d p pct k % 2 = 0 := by
  cases k with
  | zero => rfl
  | succ k => exact accumulate_mod_two _ _

/-- R72's bound: a window of at most 67 entries has at most 33 pairs. -/
theorem attemptCode_lt_of_fits (d : Decoder) (p : Protocol) (pct : Nat) {n : Nat} (hn : n ≤ 67) :
    attemptCode d p pct n < 2 ^ 33 :=
  (attemptCode_lt d p pct n).trans_le (Nat.pow_le_pow_right Nat.two_pos (by omega))

/-- Settles O46. -/
theorem accumulatorBounds : Obligations.AccumulatorBounds := fun d p pct k _ =>
  ⟨accAfter_mod_two d p pct k, accAfter_lt d p pct k, attemptCode_lt_of_fits d p pct⟩

/-- The number that the classes of `m` pairs from pair `j` on spell, the first most significant. -/
def pairsCode (d : Decoder) (p : Protocol) (pct j m : Nat) : Nat :=
  (List.range' j m).foldl (fun v i => 2 * v + if pairClass d p pct i = .bit1 then 1 else 0) 0

theorem pairsCode_succ (d : Decoder) (p : Protocol) (pct j m : Nat) :
    pairsCode d p pct j (m + 1) =
      2 * pairsCode d p pct j m + if pairClass d p pct (j + m) = .bit1 then 1 else 0 := by
  rw [pairsCode, List.range'_1_concat, List.foldl_append]
  rfl

/-- An accumulator that starts empty holds twice the number spelled so far, as long as no pair is INVALID. -/
theorem accAfter_add {d : Decoder} {p : Protocol} {pct j m : Nat} (hempty : accAfter d p pct j = 0)
    (hvalid : ∀ i, j ≤ i → i < j + m → pairClass d p pct i ≠ .invalid) :
    accAfter d p pct (j + m) = 2 * pairsCode d p pct j m := by
  induction m with
  | zero => exact hempty
  | succ m ih =>
    have hsofar := ih fun i hj hi => hvalid i hj (Nat.lt_succ_of_lt hi)
    have hlast := hvalid (j + m) (Nat.le_add_right j m) (Nat.lt_succ_self _)
    show accumulate (accAfter d p pct (j + m)) (pairClass d p pct (j + m)) = _
    rw [hsofar, pairsCode_succ]
    cases hclass : pairClass d p pct (j + m) with
    | bit0 => exact accumulate_bit0 _
    | bit1 => exact accumulate_bit1 _
    | invalid => exact absurd hclass hlast

theorem accAfter_eq_zero {d : Decoder} {p : Protocol} {pct j : Nat}
    (h : j = 0 ∨ pairClass d p pct (j - 1) = .invalid) : accAfter d p pct j = 0 := by
  cases j with
  | zero => rfl
  | succ j =>
    have hinvalid : pairClass d p pct j = .invalid := h.resolve_left (Nat.succ_ne_zero j)
    rw [accAfter, hinvalid, accumulate]

/-- Settles O47: the last INVALID pair empties the accumulator, and the pairs after it spell the code. -/
theorem theCodeIsTheBitsAfterTheLastInvalidPair : Obligations.TheCodeIsTheBitsAfterTheLastInvalidPair := by
  intro d p pct n j hj hvalid hstart
  obtain ⟨m, hm⟩ := Nat.exists_eq_add_of_le hj
  rw [hm] at hvalid
  rw [attemptCode, hm, accAfter_add (accAfter_eq_zero hstart) hvalid, Nat.add_sub_cancel_left,
    Nat.shiftRight_eq_div_pow]
  exact Nat.mul_div_cancel_left _ Nat.two_pos

/-! ### The decode attempts (44_decoder.md R166, R173 to R177) -/

/-- Settles O48. -/
theorem attemptSucceedsExactlyOnANonZeroCode : Obligations.AttemptSucceedsExactlyOnANonZeroCode := by
  intro d pct n ts id p r
  refine ⟨attempt_eq_some_iff d pct n ts id p r, fun hsome hn => ?_⟩
  obtain ⟨hmin, -, rfl⟩ := (attempt_eq_some_iff d pct n ts id p r).mp hsome
  exact ⟨by show 3 ≤ n / 2; omega, by show n / 2 ≤ 33; omega, attemptCode_lt_of_fits d p pct hn⟩

/-- The decode is the first success along the table. -/
theorem decodeWindow_eq_findSome? (tbl : ProtocolTable) (d : Decoder) (pct n : Nat) (ts : Word) :
    decodeWindow tbl d pct n ts = tbl.findSome? fun e => attempt d pct n ts e.1 e.2 := by
  induction tbl with
  | nil => rfl
  | cons e rest ih =>
    rw [decodeWindow, List.findSome?_cons, ih]
    cases attempt d pct n ts e.1 e.2 <;> rfl

/-- Settles O49: in a table in ascending order, the entries before the first success are those with a smaller
identifier. -/
theorem decodeTriesProtocolsInAscendingOrder : Obligations.DecodeTriesProtocolsInAscendingOrder := by
  intro tbl d pct n ts hasc
  have hpairwise : tbl.Pairwise fun a b => a.1 < b.1 := of_decide_eq_true hasc
  rw [decodeWindow_eq_findSome?]
  refine ⟨fun r => ⟨fun hsome => ?first, ?least⟩, List.findSome?_eq_none_iff⟩
  case first =>
    obtain ⟨before, e, after, rfl, he, hfail⟩ := List.findSome?_eq_some_iff.mp hsome
    obtain ⟨-, hafter, -⟩ := List.pairwise_append.mp hpairwise
    obtain ⟨hlater, -⟩ := List.pairwise_cons.mp hafter
    refine ⟨e, List.mem_append_right _ List.mem_cons_self, he, fun f hf hlt => ?_⟩
    rcases List.mem_append.mp hf with hbefore | hrest
    · exact hfail f hbefore
    · rcases List.mem_cons.mp hrest with rfl | hf'
      · exact absurd hlt (Nat.lt_irrefl _)
      · exact absurd hlt (Nat.lt_asymm (hlater f hf'))
  case least =>
    rintro ⟨e, he, hsome, hfail⟩
    obtain ⟨before, after, rfl⟩ := List.append_of_mem he
    obtain ⟨-, -, hsmaller⟩ := List.pairwise_append.mp hpairwise
    refine List.findSome?_eq_some_iff.mpr ⟨before, e, after, rfl, hsome, fun f hf => ?_⟩
    exact hfail f (List.mem_append_left _ hf) (hsmaller f hf e List.mem_cons_self)

end Sys2Proof.Machine

/-! ## Runs of durations through the decoder

Whole runs of events, as lists of durations (44_decoder.md R153): noise without a gap, and the window, the list of the
durations stored up to the cursor, which short durations extend and a gap begins anew. -/

namespace Sys2Proof.Machine

/-! ### Feeding the decoder (44_decoder.md R153, R155) -/

section

variable (tbl : ProtocolTable) (pct : Nat)

theorem feed_cons (dur : Word) (rest : List Word) (d : Decoder) :
    feed tbl pct (dur :: rest) d =
      ((feed tbl pct rest (decoderStep tbl pct (d.lastTs + dur) d).1).1,
        (decoderStep tbl pct (d.lastTs + dur) d).2.toList ++
          (feed tbl pct rest (decoderStep tbl pct (d.lastTs + dur) d).1).2) := rfl

theorem feed_append (xs ys : List Word) (d : Decoder) :
    feed tbl pct (xs ++ ys) d =
      ((feed tbl pct ys (feed tbl pct xs d).1).1,
        (feed tbl pct xs d).2 ++ (feed tbl pct ys (feed tbl pct xs d).1).2) := by
  induction xs generalizing d with
  | nil => rfl
  | cons x xs ih => rw [List.cons_append, feed_cons, ih, feed_cons, List.append_assoc]

/-- The decoder measures the duration by which an event follows the one before it. -/
theorem duration_of_next_event (dur : Word) (d : Decoder) : d.lastTs + dur - d.lastTs = dur :=
  add_sub_cancel_left d.lastTs dur

theorem syncTest_lastTs (ts dur : Word) (d : Decoder) : (syncTest tbl pct ts dur d).1.lastTs = d.lastTs := by
  rcases syncTest_cases tbl pct ts dur d with ⟨-, heq⟩ | ⟨-, -, heq⟩ | ⟨-, -, -, heq⟩ | ⟨-, -, -, heq⟩ <;> rw [heq]

theorem overflowTest_lastTs (d : Decoder) : (overflowTest d).lastTs = d.lastTs := by
  rcases overflowTest_cases d with ⟨-, heq⟩ | ⟨-, heq⟩ <;> rw [heq]

/-- Every event's timestamp is kept for the next one (R155). -/
theorem decoderStep_lastTs (ts : Word) (d : Decoder) : (decoderStep tbl pct ts d).1.lastTs = ts :=
  (overflowTest_lastTs _).trans (syncTest_lastTs tbl pct ts (eventDuration ts d) { d with lastTs := ts })

theorem feed_lastTs (durs : List Word) (d : Decoder) : (feed tbl pct durs d).1.lastTs = d.lastTs + durs.sum := by
  induction durs generalizing d with
  | nil => exact (add_zero d.lastTs).symm
  | cons dur rest ih => rw [feed_cons, ih, decoderStep_lastTs, List.sum_cons, add_assoc]

/-! ### Noise (44_decoder.md R164, R183) -/

theorem decoderStep_no_result_of_short {dur : Word} (hshort : dur.toNat ≤ 5000) (d : Decoder) :
    (decoderStep tbl pct (d.lastTs + dur) d).2 = none := by
  rw [decoderStep_of_no_gap tbl pct (duration_of_next_event dur d) hshort]

theorem feed_no_result_of_short {durs : List Word} (hshort : ∀ x ∈ durs, x.toNat ≤ 5000) (d : Decoder) :
    (feed tbl pct durs d).2 = [] := by
  induction durs generalizing d with
  | nil => rfl
  | cons dur rest ih =>
    obtain ⟨hdur, hrest⟩ := List.forall_mem_cons.mp hshort
    rw [feed_cons, decoderStep_no_result_of_short tbl pct hdur, ih hrest]
    rfl

/-- A short duration keeps the repeat count and takes one more place, or clears it and starts again at the front. -/
theorem decoderStep_counts_of_short {dur : Word} (hshort : dur.toNat ≤ 5000) (d : Decoder) :
    (d.changeCount < 68 ∧ (decoderStep tbl pct (d.lastTs + dur) d).1.changeCount = d.changeCount + 1 ∧
        (decoderStep tbl pct (d.lastTs + dur) d).1.repeatCount = d.repeatCount) ∨
      (68 ≤ d.changeCount ∧ (decoderStep tbl pct (d.lastTs + dur) d).1.repeatCount = 0) := by
  rcases Nat.lt_or_ge d.changeCount 68 with hroom | hfull
  · rw [decoderStep_of_room tbl pct (duration_of_next_event dur d) hshort hroom]
    exact .inl ⟨hroom, rfl, rfl⟩
  · rw [decoderStep_of_full tbl pct (duration_of_next_event dur d) hshort hfull]
    exact .inr ⟨hfull, rfl⟩

theorem feed_repeatCount_zero_of_short {durs : List Word} (hshort : ∀ x ∈ durs, x.toNat ≤ 5000) {d : Decoder}
    (hzero : d.repeatCount = 0) : (feed tbl pct durs d).1.repeatCount = 0 := by
  induction durs generalizing d with
  | nil => exact hzero
  | cons dur rest ih =>
    obtain ⟨hdur, hrest⟩ := List.forall_mem_cons.mp hshort
    rw [feed_cons]
    rcases decoderStep_counts_of_short tbl pct hdur d with ⟨-, -, hkept⟩ | ⟨-, hcleared⟩
    · exact ih hrest (hkept.trans hzero)
    · exact ih hrest hcleared

theorem feed_repeatCount_of_overflow {durs : List Word} (hshort : ∀ x ∈ durs, x.toNat ≤ 5000) {d : Decoder}
    (hpast : 68 < d.changeCount + durs.length) (hfits : d.changeCount ≤ 68) :
    (feed tbl pct durs d).1.repeatCount = 0 := by
  induction durs generalizing d with
  | nil => exact absurd hpast (Nat.not_lt.mpr hfits)
  | cons dur rest ih =>
    obtain ⟨hdur, hrest⟩ := List.forall_mem_cons.mp hshort
    rw [List.length_cons] at hpast
    rw [feed_cons]
    rcases decoderStep_counts_of_short tbl pct hdur d with ⟨hroom, hcount, -⟩ | ⟨-, hcleared⟩
    · exact ih hrest (by omega) (by omega)
    · exact feed_repeatCount_zero_of_short tbl pct hrest hcleared

end

/-- Settles O54: no gap, no result; and the event that finds the buffer full clears the repeat count for good. -/
theorem noiseWithoutAGapPublishesNothing : Obligations.NoiseWithoutAGapPublishesNothing :=
  fun tbl pct _ d hfits hshort =>
    ⟨feed_no_result_of_short tbl pct hshort d, fun hpast => feed_repeatCount_of_overflow tbl pct hshort hpast hfits⟩

/-! ### The window (44_decoder.md R156, R165) -/

/-- The durations stored up to the cursor. -/
def Decoder.window (d : Decoder) : List Word := (List.range d.changeCount).map d.entry

theorem length_window (d : Decoder) : d.window.length = d.changeCount := by
  rw [Decoder.window, List.length_map, List.length_range]

theorem window_of_changeCount_zero {d : Decoder} (h : d.changeCount = 0) : d.window = [] := by
  rw [Decoder.window, h]
  rfl

theorem window_storeDuration (dur : Word) {d : Decoder} (hroom : d.changeCount < 68) :
    (storeDuration dur d).window = d.window ++ [dur] := by
  have hearlier : (List.range d.changeCount).map (storeDuration dur d).entry = d.window :=
    List.map_congr_left fun i hi => entry_storeDuration_other dur d i (Nat.ne_of_gt (List.mem_range.mp hi))
  rw [Decoder.window, storeDuration_changeCount, List.range_succ, List.map_append, hearlier, List.map_singleton,
    entry_storeDuration_same dur d hroom]

theorem window_restarted (d : Decoder) (ts dur : Word) : (d.restarted ts dur).window = [dur] :=
  window_storeDuration dur (d := { d with lastTs := ts, changeCount := 0 }) (Nat.succ_pos 67)

/-- What a run of durations depends on: the window and the repeat count. -/
structure Decoder.Holds (d : Decoder) (win : List Word) (reps : Nat) : Prop where
  window_eq : d.window = win
  repeatCount_eq : d.repeatCount = reps

theorem Decoder.Holds.changeCount_eq {d : Decoder} {win : List Word} {reps : Nat} (h : d.Holds win reps) :
    d.changeCount = win.length := by
  rw [← h.window_eq, length_window]

theorem Decoder.Holds.entry_eq {d : Decoder} {win : List Word} {reps i : Nat} {v : Word} (h : d.Holds win reps)
    (hi : win[i]? = some v) : d.entry i = v := by
  rw [← h.window_eq, Decoder.window, List.getElem?_map, Option.map_eq_some_iff] at hi
  obtain ⟨j, hj, rfl⟩ := hi
  obtain ⟨-, rfl⟩ := List.getElem?_eq_some_iff.mp hj
  rw [List.getElem_range]

theorem Decoder.Holds.isRepeat_iff {d : Decoder} {first : Word} {more : List Word} {reps : Nat}
    (h : d.Holds (first :: more) reps) (dur : Word) :
    isRepeat dur d = true ↔ |(dur.toNat : ℤ) - (first.toNat : ℤ)| ≤ 200 := by
  rw [Machine.isRepeat_iff, h.entry_eq (i := 0) rfl, h.changeCount_eq]
  exact and_iff_right (Nat.succ_pos _)

section

variable (tbl : ProtocolTable) (pct : Nat) {d : Decoder} {reps : Nat} {dur first : Word} {more : List Word}

theorem Decoder.Holds.step_short {win : List Word} (h : d.Holds win reps) (hshort : dur.toNat ≤ 5000)
    (hroom : win.length < 68) : (decoderStep tbl pct (d.lastTs + dur) d).1.Holds (win ++ [dur]) reps := by
  rw [← h.changeCount_eq] at hroom
  rw [decoderStep_of_room tbl pct (duration_of_next_event dur d) hshort hroom, ← h.window_eq]
  exact ⟨window_storeDuration dur (d := { d with lastTs := d.lastTs + dur }) hroom, h.repeatCount_eq⟩

/-- Short durations that fit the buffer extend the window. -/
theorem Decoder.Holds.feed_short {win durs : List Word} (h : d.Holds win reps) (hshort : ∀ x ∈ durs, x.toNat ≤ 5000)
    (hroom : win.length + durs.length ≤ 68) : (feed tbl pct durs d).1.Holds (win ++ durs) reps := by
  induction durs generalizing d win with
  | nil => exact (List.append_nil win).symm ▸ h
  | cons dur rest ih =>
    obtain ⟨hdur, hrest⟩ := List.forall_mem_cons.mp hshort
    rw [List.length_cons] at hroom
    have hstep := h.step_short tbl pct hdur (by omega)
    rw [feed_cons, List.append_cons]
    exact ih hstep hrest (by rw [List.length_append, List.length_singleton]; omega)

/-- Onto an empty window the first duration begins one, whether it is a gap or not. -/
theorem step_onto_empty (hempty : d.changeCount = 0) (hzero : d.repeatCount = 0) (dur : Word) :
    (decoderStep tbl pct (d.lastTs + dur) d).2 = none ∧
      (decoderStep tbl pct (d.lastTs + dur) d).1.Holds [dur] 0 := by
  rcases Nat.lt_or_ge 5000 dur.toNat with hgap | hshort
  · have hno : isRepeat dur d = false := by rw [isRepeat, hempty]; rfl
    rw [decoderStep_of_no_repeat tbl pct (duration_of_next_event dur d) hgap hno]
    exact ⟨rfl, window_restarted d _ dur, hzero⟩
  · have hholds : d.Holds [] 0 := ⟨window_of_changeCount_zero hempty, hzero⟩
    exact ⟨decoderStep_no_result_of_short tbl pct hshort d, hholds.step_short tbl pct hshort (Nat.succ_pos 67)⟩

theorem Decoder.Holds.step_no_repeat (h : d.Holds (first :: more) reps) (hgap : 5000 < dur.toNat)
    (hfar : ¬|(dur.toNat : ℤ) - (first.toNat : ℤ)| ≤ 200) :
    (decoderStep tbl pct (d.lastTs + dur) d).2 = none ∧
      (decoderStep tbl pct (d.lastTs + dur) d).1.Holds [dur] reps := by
  have hno : isRepeat dur d = false := Bool.not_eq_true _ ▸ mt (h.isRepeat_iff dur).mp hfar
  rw [decoderStep_of_no_repeat tbl pct (duration_of_next_event dur d) hgap hno]
  exact ⟨rfl, window_restarted d _ dur, h.repeatCount_eq⟩

theorem Decoder.Holds.step_first_repeat (h : d.Holds (first :: more) 0) (hgap : 5000 < dur.toNat)
    (hnear : |(dur.toNat : ℤ) - (first.toNat : ℤ)| ≤ 200) :
    (decoderStep tbl pct (d.lastTs + dur) d).2 = none ∧
      (decoderStep tbl pct (d.lastTs + dur) d).1.Holds [dur] 1 := by
  have hcount : d.repeatCount ≠ 1 := by rw [h.repeatCount_eq]; exact Nat.zero_ne_one
  rw [decoderStep_of_first_repeat tbl pct (duration_of_next_event dur d) hgap ((h.isRepeat_iff dur).mpr hnear) hcount]
  exact ⟨rfl, window_restarted d (d.lastTs + dur) dur, congrArg (· + 1) h.repeatCount_eq⟩

theorem Decoder.Holds.step_second_repeat (h : d.Holds (first :: more) 1) (hgap : 5000 < dur.toNat)
    (hnear : |(dur.toNat : ℤ) - (first.toNat : ℤ)| ≤ 200) :
    (decoderStep tbl pct (d.lastTs + dur) d).2 = decodeWindow tbl d pct more.length (d.lastTs + dur) ∧
      (decoderStep tbl pct (d.lastTs + dur) d).1.Holds [dur] 0 := by
  have hlength : d.changeCount - 1 = more.length := by rw [h.changeCount_eq]; rfl
  rw [decoderStep_of_second_repeat tbl pct (duration_of_next_event dur d) hgap ((h.isRepeat_iff dur).mpr hnear)
    h.repeatCount_eq, hlength]
  exact ⟨rfl, window_restarted d (d.lastTs + dur) dur, rfl⟩

end

end Sys2Proof.Machine

/-! ## The round trip

A transmitted code is decoded (44_decoder.md R181; log 12). The window of one repetition decodes to its code under its
own protocol and to nothing under an earlier one. One repetition, fed to a window that holds only its first duration,
leaves a window that holds only its sync; so the train is followed repetition by repetition, and every second gap after
the first confirms one. -/

namespace Sys2Proof.Machine

/-! ### The durations of a train as the decoder sees them (42_transmitter.md R128) -/

theorem codeBits_eq_map_range (c w : Nat) : codeBits c w = (List.range w).map fun i => c.testBit (w - 1 - i) := by
  refine List.ext_getElem? fun i => ?_
  rcases Nat.lt_or_ge i w with hi | hi
  · rw [getElem?_codeBits c hi, List.getElem?_map, List.getElem?_range hi]
    rfl
  · rw [List.getElem?_eq_none (by rwa [length_codeBits]),
      List.getElem?_eq_none (by rwa [List.length_map, List.length_range])]

/-- The durations of segments as words. -/
def wordDurations (gs : List Segment) : List Word := gs.map fun g => BitVec.ofNat 32 g.duration

theorem wordDurations_append (gs gs' : List Segment) :
    wordDurations (gs ++ gs') = wordDurations gs ++ wordDurations gs' := List.map_append

theorem sum_wordDurations (gs : List Segment) :
    (wordDurations gs).sum = BitVec.ofNat 32 (gs.map Segment.duration).sum := by
  induction gs with
  | nil => rfl
  | cons g gs ih =>
    rw [List.map_cons, List.sum_cons, BitVec.ofNat_add, ← ih]
    exact List.sum_cons

/-- A repetition without its gap: the bits and the sync's HIGH segment. -/
def repHead (p : Protocol) (unit : Nat) (bits : List Bool) : List Segment :=
  (bits.flatMap fun b => waveSegments (wave p unit (Symbol.ofBit b))) ++ [⟨.high, unit⟩]

theorem oneRep_eq_repHead_append (p : Protocol) (unit : Nat) (bits : List Bool) :
    oneRep p unit bits = repHead p unit bits ++ [⟨.low, p.syncUnits * unit⟩] := by
  rw [oneRep, waveSegments_sync, repHead, List.append_assoc]
  rfl

theorem length_repHead (p : Protocol) (unit : Nat) (bits : List Bool) :
    (repHead p unit bits).length = 2 * bits.length + 1 := by
  have hlength := length_oneRep p unit bits
  rw [oneRep_eq_repHead_append, List.length_append] at hlength
  exact Nat.succ.inj hlength

theorem getElem?_repHead {p : Protocol} {unit : Nat} {bits : List Bool} {j : Nat} (hj : j < 2 * bits.length + 1) :
    (repHead p unit bits)[j]? = (oneRep p unit bits)[j]? := by
  rw [oneRep_eq_repHead_append, List.getElem?_append_left (by rwa [length_repHead])]

theorem repeated_succ_eq_append (rep : List Segment) (n : Nat) : repeated rep (n + 1) = repeated rep n ++ rep := by
  induction n with
  | zero => exact List.append_nil rep
  | succ n ih =>
    show rep ++ repeated rep (n + 1) = (rep ++ repeated rep n) ++ rep
    rw [ih, List.append_assoc]

/-- The duration of a sync's LOW segment, the gap. -/
def syncWord (p : Protocol) (unit : Nat) : Word := BitVec.ofNat 32 (p.syncUnits * unit)

theorem syncWord_repeats_itself (p : Protocol) (unit : Nat) :
    |((syncWord p unit).toNat : ℤ) - ((syncWord p unit).toNat : ℤ)| ≤ 200 := by
  rw [sub_self]
  decide

/-- The durations of a repetition before its gap. -/
def headWords (p : Protocol) (c w unit : Nat) : List Word := wordDurations (repHead p unit (codeBits c w))

/-- The durations of a train. -/
def trainWords (p : Protocol) (c w unit reps : Nat) : List Word := wordDurations (pulseTrain p c w unit reps)

/-- The length of one repetition. -/
def repLength (p : Protocol) (w unit : Nat) : Nat := unit * (w * (1 + p.pulseUnits) + 1 + p.syncUnits)

theorem length_headWords (p : Protocol) (c w unit : Nat) : (headWords p c w unit).length = 2 * w + 1 := by
  rw [headWords, wordDurations, List.length_map, length_repHead, length_codeBits]

/-- Of a window of `2 * w + 1` entries an attempt reads `w` pairs (44_decoder.md R169). -/
theorem pairs_of_window (w : Nat) : (2 * w + 1) / 2 = w := by omega

theorem trainWords_succ (p : Protocol) (c w unit n : Nat) :
    trainWords p c w unit (n + 1) = trainWords p c w unit n ++ (headWords p c w unit ++ [syncWord p unit]) := by
  have hrep : wordDurations (oneRep p unit (codeBits c w)) = headWords p c w unit ++ [syncWord p unit] := by
    rw [oneRep_eq_repHead_append, wordDurations_append]
    rfl
  rw [trainWords, pulseTrain, repeated_succ_eq_append, wordDurations_append, hrep]
  rfl

theorem trainWords_one (p : Protocol) (c w unit : Nat) :
    trainWords p c w unit 1 = headWords p c w unit ++ [syncWord p unit] :=
  trainWords_succ p c w unit 0

theorem sum_trainWords (p : Protocol) (c w unit n : Nat) :
    (trainWords p c w unit n).sum = BitVec.ofNat 32 (n * repLength p w unit) := by
  rw [trainWords, sum_wordDurations, pulseTrain, sum_duration_repeated, sum_duration_oneRep, length_codeBits, repLength]

theorem sum_repWords (p : Protocol) (c w unit : Nat) :
    (headWords p c w unit).sum + syncWord p unit = BitVec.ofNat 32 (repLength p w unit) := by
  rw [← Nat.one_mul (repLength p w unit), ← sum_trainWords p c w unit 1, trainWords_one, List.sum_append,
    List.sum_singleton]

/-! ### The classes of the transmitted pairs (43_comparator.md R146, R147) -/

/-- A duration that matches one unit is at most that unit and its tolerance. -/
theorem le_of_pulseMatch_one {obs ud pct : Nat} (h : pulseMatch obs 1 ud pct = true) :
    100 * obs ≤ ud * (100 + pct) := by
  rw [pulseMatch_iff, Nat.one_mul] at h
  have hobs : obs ≤ ud + distance obs ud := by
    unfold distance
    omega
  rw [Nat.mul_add]
  omega

theorem pulseMatch_exact (k ud pct : Nat) : pulseMatch (k * ud) k ud pct = true := by
  rw [pulseMatch_iff, (distance_eq_zero_iff _ _).mpr rfl]
  exact Nat.zero_le _

theorem pulseMatch_one_exact (ud pct : Nat) : pulseMatch ud 1 ud pct = true := by
  simpa only [Nat.one_mul] using pulseMatch_exact 1 ud pct

/-- Neither duration of a bit is shorter than the unit. -/
theorem unit_le_bit_durations {p : Protocol} (hpulse : 1 ≤ p.pulseUnits) (unit : Nat) (b : Bool) :
    unit ≤ (bitHigh p unit b).duration ∧ unit ≤ (bitLow p unit b).duration := by
  have hlong : unit ≤ p.pulseUnits * unit := Nat.le_mul_of_pos_left unit hpulse
  cases b
  · exact ⟨le_rfl, hlong⟩
  · exact ⟨hlong, le_rfl⟩

/-- Under its own unit a bit's pair has the bit's class: the tolerance keeps a long HIGH from matching one unit. -/
theorem classify_bit {p : Protocol} {unit pct : Nat} (hunit : 1 ≤ unit) (hpct : pct < 100 * (p.pulseUnits - 1))
    (b : Bool) :
    classify p.pulseUnits unit pct (bitHigh p unit b).duration (bitLow p unit b).duration =
      if b then .bit1 else .bit0 := by
  cases b with
  | false => exact classify_of_bit0 (pulseMatch_one_exact unit pct) (pulseMatch_exact p.pulseUnits unit pct)
  | true =>
    have hlong : ¬pulseMatch (p.pulseUnits * unit) 1 unit pct = true := by
      intro hmatch
      have hle := le_of_pulseMatch_one hmatch
      rw [Nat.mul_comm unit, ← Nat.mul_assoc] at hle
      have hunits : 100 * p.pulseUnits ≤ 100 + pct := Nat.le_of_mul_le_mul_right hle hunit
      omega
    show classify p.pulseUnits unit pct (p.pulseUnits * unit) unit = .bit1
    rw [classify_eq, if_neg fun h => hlong h.1,
      if_pos ⟨pulseMatch_exact p.pulseUnits unit pct, pulseMatch_one_exact unit pct⟩]

/-- A pair of durations too long for one unit is INVALID. -/
theorem classify_of_long {pu ud pct a b : Nat} (ha : ud * (100 + pct) < 100 * a) (hb : ud * (100 + pct) < 100 * b) :
    classify pu ud pct a b = .invalid := by
  rw [classify_eq, if_neg fun h => Nat.not_le.mpr ha (le_of_pulseMatch_one h.1),
    if_neg fun h => Nat.not_le.mpr hb (le_of_pulseMatch_one h.2)]

/-! ### The premises of the round trip -/

/-- What R181 asks of a code, its protocol, its pulse length and the tolerance (log 12). -/
structure RoundTrips (id : Nat) (p : Protocol) (c w unit pct : Nat) : Prop where
  lookup_eq : lookup Config.protocols id = some p
  code_ne_zero : c ≠ 0
  code_lt : c < 2 ^ w
  three_le_width : 3 ≤ w
  width_le : w ≤ 32
  sync_is_gap : 5000 < p.syncUnits * unit
  pulse_is_short : p.pulseUnits * unit ≤ 5000
  pct_lt : pct < 100 * (p.pulseUnits - 1)

/-- The results of a train of which `n` gaps confirm one, the first edge at `start`. -/
def trainResults (id : Nat) (p : Protocol) (c w unit : Nat) (start : Word) (n : Nat) : List DecodedResult :=
  (List.range n).map fun j => ⟨c, w, id, start + BitVec.ofNat 32 ((2 * j + 3) * repLength p w unit), unit⟩

theorem trainResults_succ (id : Nat) (p : Protocol) (c w unit : Nat) (start : Word) (n : Nat) :
    trainResults id p c w unit start (n + 1) =
      trainResults id p c w unit start n ++
        [⟨c, w, id, start + BitVec.ofNat 32 ((2 * n + 3) * repLength p w unit), unit⟩] := by
  rw [trainResults, List.range_succ, List.map_append]
  rfl

section

variable {id : Nat} {p : Protocol} {c w unit pct : Nat} (h : RoundTrips id p c w unit pct)

include h

theorem RoundTrips.unit_pos : 1 ≤ unit :=
  Nat.pos_of_mul_pos_left (Nat.zero_lt_of_lt h.sync_is_gap)

theorem RoundTrips.protocol_cases : (id = 1 ∧ p = ⟨31, 3⟩) ∨ (id = 2 ∧ p = ⟨10, 2⟩) :=
  (lookup_protocols_iff id p).mp h.lookup_eq

theorem RoundTrips.syncUnits_pos : 0 < p.syncUnits :=
  Nat.pos_of_mul_pos_right (Nat.zero_lt_of_lt h.sync_is_gap)

theorem RoundTrips.pulseUnits_pos : 1 ≤ p.pulseUnits := by
  have hpct := h.pct_lt
  omega

theorem RoundTrips.unit_is_short : unit ≤ 5000 :=
  (Nat.le_mul_of_pos_left unit h.pulseUnits_pos).trans h.pulse_is_short

theorem RoundTrips.toNat_syncWord : (syncWord p unit).toNat = p.syncUnits * unit := by
  obtain ⟨hsync, -⟩ := wf_units_le wf_protocols (mem_of_lookup_eq_some h.lookup_eq)
  have hfits : p.syncUnits * unit ≤ 255 * 5000 := Nat.mul_le_mul hsync h.unit_is_short
  exact toNat_ofNat_of_le_waveMax (by omega)

theorem RoundTrips.syncWord_is_gap : 5000 < (syncWord p unit).toNat :=
  h.toNat_syncWord.symm ▸ h.sync_is_gap

theorem RoundTrips.bit_is_short (b : Bool) :
    (bitHigh p unit b).duration ≤ 5000 ∧ (bitLow p unit b).duration ≤ 5000 := by
  cases b
  · exact ⟨h.unit_is_short, h.pulse_is_short⟩
  · exact ⟨h.pulse_is_short, h.unit_is_short⟩

/-- Before its gap a repetition has no other gap. -/
theorem RoundTrips.headWords_are_short : ∀ x ∈ headWords p c w unit, x.toNat ≤ 5000 := by
  intro x hx
  obtain ⟨g, hg, rfl⟩ := List.mem_map.mp hx
  refine (BitVec.toNat_ofNat g.duration 32).trans_le ((Nat.mod_le _ _).trans ?_)
  rcases List.mem_append.mp hg with hbits | hsync
  · obtain ⟨b, -, hb⟩ := List.mem_flatMap.mp hbits
    obtain ⟨hhigh, hlow⟩ := h.bit_is_short b
    rw [waveSegments_ofBit] at hb
    rcases List.mem_pair.mp hb with rfl | rfl
    · exact hhigh
    · exact hlow
  · obtain rfl := List.mem_singleton.mp hsync
    exact h.unit_is_short

/-! ### The decode of a transmitted window (44_decoder.md R166 to R175)

The window between two gaps of a train holds the sync that began it and a repetition up to its own gap. -/

section

variable {d : Decoder} {reps : Nat} (hd : d.Holds (syncWord p unit :: headWords p c w unit) reps)

include hd

/-- Whatever the protocol of the attempt, it classifies the two segments of each bit. -/
theorem pairClass_transmitted (q : Protocol) {i : Nat} {b : Bool} (hb : (codeBits c w)[i]? = some b) :
    pairClass d q pct i =
      classify q.pulseUnits (p.syncUnits * unit / q.syncUnits) pct (bitHigh p unit b).duration
        (bitLow p unit b).duration := by
  have hi : i < (codeBits c w).length := (List.getElem?_eq_some_iff.mp hb).1
  obtain ⟨hhigh, hlow⟩ := getElem?_oneRep_bit p unit hb
  rw [← getElem?_repHead (by omega)] at hhigh hlow
  obtain ⟨hhighShort, hlowShort⟩ := h.bit_is_short b
  have hword : ∀ {j : Nat} {g : Segment}, (repHead p unit (codeBits c w))[j]? = some g →
      d.entry (j + 1) = BitVec.ofNat 32 g.duration := fun hg => hd.entry_eq (by
    rw [List.getElem?_cons_succ, headWords, wordDurations, List.getElem?_map, hg]
    rfl)
  rw [pairClass, unitEstimate, hd.entry_eq (i := 0) rfl, hword hhigh, hword hlow, h.toNat_syncWord,
    toNat_ofNat_of_le_waveMax (by omega), toNat_ofNat_of_le_waveMax (by omega)]

theorem pairClass_own {i : Nat} (hi : i < w) :
    pairClass d p pct i = if c.testBit (w - 1 - i) then .bit1 else .bit0 := by
  rw [pairClass_transmitted h hd p (getElem?_codeBits c hi), Nat.mul_div_cancel_left unit h.syncUnits_pos,
    classify_bit h.unit_pos h.pct_lt]

/-- The pairs of the window spell the code. -/
theorem attemptCode_own : attemptCode d p pct (2 * w + 1) = c := by
  have hvalid : ∀ i, 0 ≤ i → i < (2 * w + 1) / 2 → pairClass d p pct i ≠ .invalid := fun i _ hi => by
    rw [pairClass_own h hd (pairs_of_window w ▸ hi)]
    split <;> decide
  have hspell : ∀ v, ∀ i ∈ List.range w,
      (2 * v + if pairClass d p pct i = .bit1 then 1 else 0) = 2 * v + (c.testBit (w - 1 - i)).toNat := fun v i hi => by
    rw [pairClass_own h hd (List.mem_range.mp hi)]
    cases c.testBit (w - 1 - i) <;> rfl
  have hread := foldl_codeBits c w 0
  rw [codeBits_eq_map_range, List.foldl_map, Nat.zero_mul, Nat.zero_add, Nat.mod_eq_of_lt h.code_lt] at hread
  rw [theCodeIsTheBitsAfterTheLastInvalidPair d p pct (2 * w + 1) 0 (Nat.zero_le _) hvalid (.inl rfl),
    pairs_of_window, Nat.sub_zero, ← List.range_eq_range', List.foldl_ext _ _ _ hspell, hread]

theorem attempt_own (ts : Word) : attempt d pct (2 * w + 1) ts id p = some ⟨c, w, id, ts, unit⟩ := by
  have hwidth := h.three_le_width
  have hunit : unitEstimate d p = unit := by
    rw [unitEstimate, hd.entry_eq (i := 0) rfl, h.toNat_syncWord, Nat.mul_div_cancel_left unit h.syncUnits_pos]
  rw [attempt_eq_some_iff, attemptCode_own h hd, hunit, pairs_of_window]
  exact ⟨by omega, h.code_ne_zero, rfl⟩

/-- A protocol whose unit estimate is so small that no transmitted pulse can match one unit fails: its last pair is
INVALID, so the code is 0. -/
theorem attempt_other_eq_none {q : Protocol}
    (hsmall : p.syncUnits * unit / q.syncUnits * (100 + pct) < 100 * unit) (ts : Word) (id' : Nat) :
    attempt d pct (2 * w + 1) ts id' q = none := by
  have hlast : w - 1 < w := Nat.sub_one_lt_of_lt h.three_le_width
  obtain ⟨hhigh, hlow⟩ := unit_le_bit_durations h.pulseUnits_pos unit (c.testBit (w - 1 - (w - 1)))
  have hinvalid : pairClass d q pct (w - 1) = .invalid := by
    rw [pairClass_transmitted h hd q (getElem?_codeBits c hlast), classify_of_long (by omega) (by omega)]
  have hcode : attemptCode d q pct (2 * w + 1) = 0 := by
    rw [attemptCode, pairs_of_window, accAfter_eq_zero (.inr hinvalid), Nat.zero_shiftRight]
  refine Option.eq_none_iff_forall_ne_some.mpr fun r hr => ?_
  obtain ⟨-, hne, -⟩ := (attempt_eq_some_iff d pct _ ts id' q r).mp hr
  exact hne hcode

/-- R181 (d) at the default table: protocol 1 takes a protocol-2 unit for less than half as long as it is. -/
theorem attempt_earlier_eq_none (ts : Word) :
    ∀ f ∈ Config.protocols, f.1 < id → attempt d pct (2 * w + 1) ts f.1 f.2 = none := by
  rintro ⟨id', q⟩ hmem (hlt : id' < id)
  rcases h.protocol_cases with ⟨rfl, -⟩ | ⟨rfl, rfl⟩ <;>
    rcases (mem_protocols_iff id' q).mp hmem with ⟨rfl, rfl⟩ | ⟨rfl, rfl⟩
  · exact absurd hlt (by decide)
  · exact absurd hlt (by decide)
  · have hunit := h.unit_pos
    have hpct : pct < 100 := h.pct_lt
    have htol : 10 * unit / 31 * (100 + pct) ≤ 10 * unit / 31 * 200 := Nat.mul_le_mul_left _ (by omega)
    refine attempt_other_eq_none h hd ?_ ts 1
    show 10 * unit / 31 * (100 + pct) < 100 * unit
    omega
  · exact absurd hlt (by decide)

/-- A transmitted window decodes to its code. -/
theorem decodeWindow_transmitted (ts : Word) :
    decodeWindow Config.protocols d pct (2 * w + 1) ts = some ⟨c, w, id, ts, unit⟩ := by
  obtain ⟨hleast, -⟩ := decodeTriesProtocolsInAscendingOrder Config.protocols d pct (2 * w + 1) ts (by decide)
  exact (hleast _).mpr
    ⟨(id, p), mem_of_lookup_eq_some h.lookup_eq, attempt_own h hd ts, attempt_earlier_eq_none h hd ts⟩

end

/-! ### One repetition -/

section

variable {d : Decoder} {first : Word} {reps : Nat}

/-- Up to its gap a repetition extends the window and publishes nothing. -/
theorem feed_headWords (hd : d.Holds [first] reps) :
    (feed Config.protocols pct (headWords p c w unit) d).2 = [] ∧
      (feed Config.protocols pct (headWords p c w unit) d).1.Holds (first :: headWords p c w unit) reps := by
  have hshort := h.headWords_are_short
  have hwidth := h.width_le
  have hroom : [first].length + (headWords p c w unit).length ≤ 68 := by
    rw [List.length_singleton, length_headWords]
    omega
  exact ⟨feed_no_result_of_short Config.protocols pct hshort d, hd.feed_short Config.protocols pct hshort hroom⟩

/-- A repetition ends with one decoder step at its gap; what that step gives is all it publishes. -/
theorem feed_repetition (hd : d.Holds [first] reps) :
    ∃ d' : Decoder, d'.Holds (first :: headWords p c w unit) reps ∧
      d'.lastTs + syncWord p unit = d.lastTs + BitVec.ofNat 32 (repLength p w unit) ∧
      feed Config.protocols pct (headWords p c w unit ++ [syncWord p unit]) d =
        ((decoderStep Config.protocols pct (d'.lastTs + syncWord p unit) d').1,
          (decoderStep Config.protocols pct (d'.lastTs + syncWord p unit) d').2.toList) := by
  obtain ⟨hnone, hholds⟩ := feed_headWords h hd
  refine ⟨_, hholds, ?_, ?_⟩
  · rw [feed_lastTs, add_assoc, sum_repWords]
  · rw [feed_append, hnone, feed_cons]
    exact congrArg _ (List.append_nil _)

theorem feed_repetition_of_no_repeat (hd : d.Holds [first] reps)
    (hfar : ¬|((syncWord p unit).toNat : ℤ) - (first.toNat : ℤ)| ≤ 200) :
    (feed Config.protocols pct (headWords p c w unit ++ [syncWord p unit]) d).2 = [] ∧
      (feed Config.protocols pct (headWords p c w unit ++ [syncWord p unit]) d).1.Holds [syncWord p unit] reps := by
  obtain ⟨d', hd', -, heq⟩ := feed_repetition h hd
  obtain ⟨hnone, hholds⟩ := hd'.step_no_repeat Config.protocols pct h.syncWord_is_gap hfar
  rw [heq, hnone]
  exact ⟨rfl, hholds⟩

theorem feed_repetition_of_first_repeat (hd : d.Holds [first] 0)
    (hnear : |((syncWord p unit).toNat : ℤ) - (first.toNat : ℤ)| ≤ 200) :
    (feed Config.protocols pct (headWords p c w unit ++ [syncWord p unit]) d).2 = [] ∧
      (feed Config.protocols pct (headWords p c w unit ++ [syncWord p unit]) d).1.Holds [syncWord p unit] 1 := by
  obtain ⟨d', hd', -, heq⟩ := feed_repetition h hd
  obtain ⟨hnone, hholds⟩ := hd'.step_first_repeat Config.protocols pct h.syncWord_is_gap hnear
  rw [heq, hnone]
  exact ⟨rfl, hholds⟩

/-- The second repeat publishes the code of its repetition, with the timestamp of its gap. -/
theorem feed_repetition_of_second_repeat (hd : d.Holds [syncWord p unit] 1) :
    (feed Config.protocols pct (headWords p c w unit ++ [syncWord p unit]) d).2 =
        [⟨c, w, id, d.lastTs + BitVec.ofNat 32 (repLength p w unit), unit⟩] ∧
      (feed Config.protocols pct (headWords p c w unit ++ [syncWord p unit]) d).1.Holds [syncWord p unit] 0 := by
  obtain ⟨d', hd', hts, heq⟩ := feed_repetition h hd
  obtain ⟨hresult, hholds⟩ :=
    hd'.step_second_repeat Config.protocols pct h.syncWord_is_gap (syncWord_repeats_itself p unit)
  rw [length_headWords, decodeWindow_transmitted h hd'] at hresult
  rw [heq, hresult, ← hts]
  exact ⟨rfl, hholds⟩

end

/-! ### The train -/

variable {d : Decoder} {d0 : Word} (hd : d.Holds [d0] 0)
  (hfar : ¬|((syncWord p unit).toNat : ℤ) - (d0.toNat : ℤ)| ≤ 200)

include hd hfar

/-- After the first gap of a train, every second one publishes. -/
theorem feed_trainWords (n : Nat) :
    (feed Config.protocols pct (trainWords p c w unit (n + 1)) d).2 = trainResults id p c w unit d.lastTs (n / 2) ∧
      (feed Config.protocols pct (trainWords p c w unit (n + 1)) d).1.Holds [syncWord p unit] (n % 2) := by
  induction n with
  | zero =>
    rw [trainWords_one]
    exact feed_repetition_of_no_repeat h hd hfar
  | succ n ih =>
    obtain ⟨hresults, hholds⟩ := ih
    rw [trainWords_succ, feed_append, hresults]
    rcases Nat.mod_two_eq_zero_or_one n with heven | hodd
    · rw [heven] at hholds
      obtain ⟨hnone, hnext⟩ := feed_repetition_of_first_repeat h hholds (syncWord_repeats_itself p unit)
      have hhalf : (n + 1) / 2 = n / 2 := by omega
      have hmod : (n + 1) % 2 = 1 := by omega
      rw [hnone, hhalf, hmod]
      exact ⟨List.append_nil _, hnext⟩
    · rw [hodd] at hholds
      obtain ⟨hone, hnext⟩ := feed_repetition_of_second_repeat h hholds
      have hhalf : (n + 1) / 2 = n / 2 + 1 := by omega
      have hmod : (n + 1) % 2 = 0 := by omega
      have hgaps : n + 1 + 1 = 2 * (n / 2) + 3 := by omega
      rw [hone, feed_lastTs, sum_trainWords, add_assoc, ← BitVec.ofNat_add, ← Nat.succ_mul, Nat.succ_eq_add_one,
        hgaps, hhalf, hmod, trainResults_succ]
      exact ⟨rfl, hnext⟩

/-- A train whose last repetition stops before its gap publishes what its closed repetitions do. -/
theorem feed_unclosed (n : Nat) :
    (feed Config.protocols pct (trainWords p c w unit n ++ headWords p c w unit) d).2 =
      trainResults id p c w unit d.lastTs ((n - 1) / 2) := by
  rw [feed_append]
  cases n with
  | zero => exact (feed_headWords h hd).1
  | succ n =>
    obtain ⟨hresults, hholds⟩ := feed_trainWords h hd hfar n
    rw [hresults, (feed_headWords h hholds).1]
    exact List.append_nil _

end

theorem dropLast_trainWords (p : Protocol) (c w unit n : Nat) :
    (trainWords p c w unit (n + 1)).dropLast = trainWords p c w unit n ++ headWords p c w unit := by
  rw [trainWords_succ, ← List.append_assoc, List.dropLast_concat]

/-- The first duration of a receiver at rest begins its window and publishes nothing. -/
theorem feed_from_rest {tbl : ProtocolTable} {pct : Nat} {d : Decoder} (hempty : d.changeCount = 0)
    (hzero : d.repeatCount = 0) (d0 : Word) :
    ∃ d' : Decoder, d'.Holds [d0] 0 ∧ d'.lastTs = d.lastTs + d0 ∧
      ∀ durs, (feed tbl pct (d0 :: durs) d).2 = (feed tbl pct durs d').2 := by
  obtain ⟨hnone, hholds⟩ := step_onto_empty tbl pct hempty hzero d0
  refine ⟨_, hholds, decoderStep_lastTs tbl pct _ d, fun durs => ?_⟩
  rw [feed_cons, hnone]
  rfl

/-- Settles O55: after the first duration the train is followed repetition by repetition; without the closing edge its
last repetition stops before its gap. -/
theorem aTransmittedCodeIsDecoded : Obligations.ATransmittedCodeIsDecoded := by
  intro id p c w unit reps pct d0 d hlookup hne hlt hw3 hw32 hsync hpulse hpct hfar hempty hzero
  have h : RoundTrips id p c w unit pct := ⟨hlookup, hne, hlt, hw3, hw32, hsync, hpulse, hpct⟩
  obtain ⟨d', hd', hts, hfeed⟩ := feed_from_rest (tbl := Config.protocols) (pct := pct) hempty hzero d0
  rw [abs_sub_comm, ← h.toNat_syncWord, ← Int.not_le] at hfar
  rw [hfeed, hfeed, ← hts]
  cases reps with
  | zero => exact ⟨rfl, rfl⟩
  | succ n =>
    obtain ⟨hclosed, -⟩ := feed_trainWords h hd' hfar n
    have hunclosed := feed_unclosed h hd' hfar n
    rw [← dropLast_trainWords] at hunclosed
    exact ⟨hclosed, hunclosed⟩

/-- Settles O56: the first gap, 5100, repeats the stored 4950, so the second one is already the confirming repeat. -/
theorem aShortFirstDurationCanConfirmEarly : Obligations.AShortFirstDurationCanConfirmEarly := by
  have h : RoundTrips 2 ⟨10, 2⟩ 1 3 510 20 :=
    ⟨by decide, by decide, by decide, by decide, by decide, by decide, by decide, by decide⟩
  obtain ⟨d, hd, -, hfeed⟩ := feed_from_rest (tbl := Config.protocols) (pct := 20) (d := State.reset.decoder) rfl rfl
    4950#32
  obtain ⟨hnone, hfirst⟩ := feed_repetition_of_first_repeat h hd (by decide)
  obtain ⟨hone, -⟩ := feed_repetition_of_second_repeat h hfirst
  show (feed Config.protocols 20 (4950#32 :: trainWords ⟨10, 2⟩ 1 3 510 2) State.reset.decoder).2.map _ = [1]
  rw [hfeed, trainWords_succ _ _ _ _ 1, trainWords_one, feed_append, hnone, hone]
  rfl

end Sys2Proof.Machine

/-! ## Errors

A command either raises a code and does nothing else or ends with OK; no other operation writes ERR; and since an error
is only a code in STATUS, no operation stops the block (60_exceptions.md). -/

namespace Sys2Proof.Machine

/-! ### Precise errors (60_exceptions.md R189, R194) -/

/-- A write to CMD that leaves an error has raised it, since an accepted command reports OK. -/
theorem InstrEffect.eq_raise_of_write_cmd {s t : State} {w : Word} (h : InstrEffect s (.regWrite .cmd w) t)
    (herr : t.status.err ≠ .ok) : t = raise t.status.err s := by
  cases h with
  | rejected _ e => rw [raise_status_err]
  | accepted => exact absurd (succeed_status_err _) herr
  | regWrite _ _ hslot => exact absurd rfl hslot

/-- Settles O23: a failed write to CMD is a raise, which writes ERR alone. -/
theorem errorsArePrecise : Obligations.ErrorsArePrecise := fun _ _ _ hexec herr =>
  (instrEffect_of_exec hexec).eq_raise_of_write_cmd herr

/-! ### What keeps ERR (60_exceptions.md R209) -/

theorem captureEdge_err (ts : Word) (s : State) : (captureEdge ts s).status.err = s.status.err := by
  rcases captureEdge_cases ts s with ⟨-, h⟩ | ⟨-, -, h⟩ | ⟨-, -, h⟩ <;> rw [h]

theorem publishIfAny_err (r : Option DecodedResult) (s : State) : (publishIfAny r s).status.err = s.status.err := by
  cases r <;> rfl

theorem processEdge_err (s : State) : (processEdge s).status.err = s.status.err := by
  rcases processEdge_publishes s with h | ⟨ts, rest, d, r, -, -, h⟩
  · rw [h]
  · rw [h, publishIfAny_err]

theorem segmentStep_err (s : State) : (segmentStep s).status.err = s.status.err := by
  rcases segmentStep_cases s with h | ⟨g, next, rest, -, -, -, -, h⟩ | ⟨g, -, -, -, -, h⟩ <;> simp [h]

/-- Settles O24, one clause per operation that is no command. -/
theorem errPersistsUntilTheNextCommand : Obligations.ErrPersistsUntilTheNextCommand := by
  refine ⟨fun slot s t hread => ?_, fun slot v s t hslot hwrite => ?_, fun ts s t hedge => ?_,
    fun s => ⟨processEdge_err s, segmentStep_err s⟩⟩
  · cases (exec_regRead slot s).symm.trans hread
    rw [driveRdata_status]
  · cases (exec_regWrite_of_ne_cmd hslot v s).symm.trans hwrite
    rfl
  · cases (exec_edge ts s).symm.trans hedge
    exact captureEdge_err ts s

/-! ### Every operation goes on (60_exceptions.md R200, 30_encoding.md R86) -/

theorem exists_next_of_runCommand (c : Command) (s : State) : ∃ t, runCommand Config.protocols c s = .next t := by
  rcases runCommand_cases c s with ⟨e, h⟩ | ⟨u, -, h⟩ <;> exact ⟨_, h⟩

/-- A write to CMD runs its command or reports that there is none. -/
theorem exists_next_of_writeCmd (w : Word) (s : State) : ∃ t, writeCmd Config.protocols w s = .next t := by
  cases hc : decodeCommand w with
  | none => exact ⟨_, writeCmd_of_none hc s⟩
  | some c =>
    rw [writeCmd_of_some hc]
    exact exists_next_of_runCommand c s

theorem exists_next_of_exec (i : Instr) (s : State) : ∃ t, exec i s = .next t := by
  cases i with
  | nop | txEnable | txDisable | rxEnable | rxDisable | send | cleanup | encLogic0 | encLogic1 | encSync => exact ⟨_, rfl⟩
  | regRead slot => exact ⟨_, exec_regRead slot s⟩
  | regWrite slot v =>
    by_cases hslot : slot = .cmd
    · rw [hslot, exec_regWrite_cmd]
      exact exists_next_of_writeCmd v s
    · exact ⟨_, exec_regWrite_of_ne_cmd hslot v s⟩
  | edge ts => exact ⟨_, exec_edge ts s⟩

theorem exists_next_of_perform (op : Op) (s : State) : ∃ t, perform op s = .next t := by
  cases op with
  | port c =>
    show ∃ t, present c s = .next t
    rcases present_cases c s with ⟨i, -, h⟩ | ⟨w, -, h⟩
    · rw [h]
      exact exists_next_of_exec i s
    · exact ⟨_, h⟩
  | process | segStep => exact ⟨_, rfl⟩

/-- Settles O25: a step waits, takes a reset, or performs an operation, and each of them goes on. -/
theorem nothingStopsTheBlock : Obligations.NothingStopsTheBlock := by
  refine ⟨exists_next_of_exec, fun s => ?_⟩
  rcases step_cases s with ⟨-, hwait⟩ | ⟨e, rest, -, -, hreset⟩ | ⟨e, rest, -, -, hperform⟩
  · exact ⟨_, hwait⟩
  · exact ⟨_, hreset⟩
  · rw [hperform]
    exact exists_next_of_perform _ _

end Sys2Proof.Machine

/-! ## Reset and coming to rest

What a step with `rst_n = 0` does and the values it leaves; that the clean-up commands may be repeated; and that the two
internal operations alone end a train and empty the edge queue (70_reset_and_hazards.md). -/

namespace Sys2Proof.Machine

/-! ### Reset (70_reset_and_hazards.md R210, R212, R213; log 9) -/

/-- A step that sees `rst_n = 0` resets the block, whatever its operation. -/
theorem step_eq_reset {s : State} {e : Event} {rest : List Event} (hpending : s.pending = e :: rest)
    (hrst : e.rstN = false) : step s = .next { State.reset with nowUs := e.nowUs, pending := rest } := by
  rcases step_cases s with ⟨hnil, -⟩ | ⟨e', rest', hcons, -, hreset⟩ | ⟨e', rest', hcons, htrue, -⟩
  · cases hpending.symm.trans hnil
  · cases hpending.symm.trans hcons
    exact hreset
  · cases hpending.symm.trans hcons
    exact (not_cleared_of_set htrue hrst).elim

/-- Settles O9: the step gives the reset state, whose fields are read off. -/
theorem resetIgnoresStrobesAndClears : Obligations.ResetIgnoresStrobesAndClears := fun _ _ _ hpending hrst =>
  ⟨step_eq_reset hpending hrst, rfl, rfl, rfl, rfl, rfl, rfl⟩

/-- The timing buffer is 0 in all its places, and outside them an entry reads 0 anyway. -/
theorem reset_entry (i : Nat) : State.reset.decoder.entry i = 0#32 := by
  by_cases hi : i < 68 <;> simp [Decoder.entry, State.reset, Vector.getD, hi]

/-- The slots a host reads that hold neither a setting nor STATUS. -/
theorem reset_slotValue_of_output : ∀ slot ∈ [Slot.rxCodeLo, .rxCodeHi, .rxMeta, .rxUnit, .rxTime, .rxSeq, .waveHigh,
    .waveLow], slotValue State.reset slot = 0#32 := by decide

/-- Settles O10, row by row of the reset table: the registers and their fields, the outputs, the decoder, the rest. -/
theorem everyPieceOfStateHasItsResetValue : Obligations.EveryPieceOfStateHasItsResetValue :=
  ⟨rfl, by decide, rfl, rfl, by decide, by decide, by decide, rfl, by decide, rfl, by decide,
    reset_slotValue_of_output, reset_entry, rfl, rfl, rfl, rfl, rfl, rfl, rfl⟩

/-! ### The clean-up commands once more (70_reset_and_hazards.md R215)

Each leaves a state in which it has nothing left to do: the mode it ends is not active, and ERR is OK already. CLEANUP
also finds the pin and the queue as it sets them, and only strobes its release. -/

theorem succeed_of_err_ok {s : State} (h : s.status.err = .ok) : succeed s = s := by
  rw [succeed, ← h]

theorem disableTx_mode_ne_tx (s : State) : (disableTx s).status.mode ≠ .tx := by
  rcases disableTx_cases s with ⟨hother, heq⟩ | ⟨-, -, heq⟩ | ⟨-, -, heq⟩ <;> rw [heq]
  · exact hother
  · exact nofun
  · exact nofun

theorem disableRx_mode_ne_rx (s : State) : (disableRx s).status.mode ≠ .rx := by
  rcases disableRx_cases s with ⟨-, heq⟩ | ⟨hother, heq⟩ <;> rw [heq]
  · exact nofun
  · exact hother

theorem exec_txDisable_of_done {s : State} (hmode : s.status.mode ≠ .tx) (herr : s.status.err = .ok) :
    exec .txDisable s = .next s := by
  obtain ⟨-, heq⟩ := (disableTx_cases s).resolve_right
    fun h => hmode (h.elim (fun ⟨htx, _⟩ => htx) fun ⟨htx, _⟩ => htx)
  rw [exec_txDisable, heq, succeed_of_err_ok herr]

theorem exec_rxDisable_of_done {s : State} (hmode : s.status.mode ≠ .rx) (herr : s.status.err = .ok) :
    exec .rxDisable s = .next s := by
  obtain ⟨-, heq⟩ := (disableRx_cases s).resolve_left fun ⟨hrx, _⟩ => hmode hrx
  rw [exec_rxDisable, heq, succeed_of_err_ok herr]

theorem allOff_cleanUp (s : State) : allOff (succeed (cleanUp s)) = succeed (cleanUp s) := rfl

/-- CLEANUP where everything is off already: only the release is left of it. -/
theorem exec_cleanup_of_done {s : State} (hmode : s.status.mode ≠ .tx) (hoff : allOff s = s)
    (herr : s.status.err = .ok) : exec .cleanup s = .next (releasePin s) := by
  obtain ⟨-, heq⟩ := (cleanUp_cases s).resolve_left fun ⟨htx, _⟩ => hmode htx
  rw [exec_cleanup, heq, hoff, succeed_of_err_ok (s := releasePin s) herr]

/-- Settles O21: each command leaves a state where it is done. -/
theorem cleanUpIsIdempotent : Obligations.CleanUpIsIdempotent := fun s =>
  ⟨⟨_, exec_txDisable s, rfl, exec_txDisable_of_done (disableTx_mode_ne_tx s) rfl⟩,
    ⟨_, exec_rxDisable s, rfl, exec_rxDisable_of_done (disableRx_mode_ne_rx s) rfl⟩,
    ⟨_, exec_cleanup s, rfl, exec_cleanup_of_done nofun (allOff_cleanUp s) rfl⟩⟩

/-! ### Emptying the edge queue (44_decoder.md R154) -/

theorem publishIfAny_efifo (r : Option DecodedResult) (s : State) : (publishIfAny r s).efifo = s.efifo := by
  cases r <;> rfl

theorem publishIfAny_busy (r : Option DecodedResult) (s : State) :
    (publishIfAny r s).status.busy = s.status.busy := by
  cases r <;> rfl

theorem publishIfAny_pending (r : Option DecodedResult) (s : State) : (publishIfAny r s).pending = s.pending := by
  cases r <;> rfl

theorem processEdge_efifo (s : State) : (processEdge s).efifo = s.efifo.tail := by
  rcases processEdge_cases s with ⟨hnil, h⟩ | ⟨ts, rest, hcons, h⟩
  · rw [h, hnil, List.tail_nil]
  · rw [h, publishIfAny_efifo, hcons, List.tail_cons]

theorem processEdge_busy (s : State) : (processEdge s).status.busy = s.status.busy := by
  rcases processEdge_cases s with ⟨-, h⟩ | ⟨ts, rest, -, h⟩
  · rw [h]
  · rw [h, publishIfAny_busy]

theorem processEdge_pending (s : State) : (processEdge s).pending = s.pending := by
  rcases processEdge_cases s with ⟨-, h⟩ | ⟨ts, rest, -, h⟩
  · rw [h]
  · rw [h, publishIfAny_pending]

/-- As many edge processings as there are edges waiting, all at one time. -/
def processings (now : Word) (n : Nat) : List Event := List.replicate n (eventAt now .process)

theorem mem_processings {now : Word} {n : Nat} {e : Event} (h : e ∈ processings now n) :
    e.rstN = true ∧ e.op = .process := by
  obtain rfl := List.eq_of_mem_replicate h
  exact ⟨rfl, rfl⟩

theorem length_processings (now : Word) (n : Nat) : (processings now n).length = n := List.length_replicate

theorem exists_step_of_process {s : State} {now : Word} {rest : List Event}
    (hpending : s.pending = eventAt now .process :: rest) :
    ∃ u, step s = .next u ∧ u.efifo = s.efifo.tail ∧ u.status.busy = s.status.busy ∧
      u.status.mode = s.status.mode ∧ u.pending = rest :=
  ⟨_, step_eq_perform hpending rfl, processEdge_efifo _, processEdge_busy _, processEdge_mode _, processEdge_pending _⟩

/-- Edge processings, one for each edge waiting, empty the queue and start no train. -/
theorem run_processings {now : Word} {n : Nat} {s : State} (hbusy : s.status.busy = false) (hlen : s.efifo.length = n)
    (hpending : s.pending = processings now n) :
    ∃ t, Sys2Proof.core.run n s = .next t ∧ t.Quiescent ∧ t.status.mode = s.status.mode ∧ t.pending = [] := by
  induction n generalizing s with
  | zero => exact ⟨s, rfl, ⟨hbusy, List.eq_nil_of_length_eq_zero hlen⟩, rfl, hpending⟩
  | succ n ih =>
    obtain ⟨u, hstep, hfifo, hbusy', hmode', hpending'⟩ := exists_step_of_process hpending
    have hleft : u.efifo.length = n := by rw [hfifo, List.length_tail, hlen, Nat.add_sub_cancel]
    obtain ⟨t, hrun, hquiet, hmode, hdone⟩ := ih (hbusy'.trans hbusy) hleft hpending'
    exact ⟨t, (run_succ_of_step hstep n).trans hrun, hquiet, hmode.trans hmode', hdone⟩

/-! ### Ending a train (42_transmitter.md R133, R134) -/

theorem length_dueSteps (start : Word) (gs : List Segment) : (dueSteps start gs).length = gs.length := by
  induction gs generalizing start with
  | nil => rfl
  | cons g rest ih => rw [dueSteps, List.length_cons, ih, List.length_cons]

theorem mem_dueSteps {start : Word} {gs : List Segment} {e : Event} (h : e ∈ dueSteps start gs) :
    e.rstN = true ∧ e.op = .segStep := by
  induction gs generalizing start with
  | nil => cases h
  | cons g rest ih =>
    rcases List.mem_cons.mp h with rfl | hrest
    · exact ⟨rfl, rfl⟩
    · exact ih hrest

/-- The segments of a train of the default table fit the time input, whatever its operands were latched from. -/
theorem duration_lt_of_mem_pulseTrain {id : Nat} {p : Protocol} {c w unit reps : Nat} {g : Segment}
    (hlookup : lookup Config.protocols id = some p) (hunit : unit ≤ 65535) (h : g ∈ pulseTrain p c w unit reps) :
    g.duration < 2 ^ 32 := by
  obtain ⟨sym, hsym⟩ := mem_pulseTrain h
  obtain ⟨hhigh, hlow⟩ := wave_le wf_protocols (mem_of_lookup_eq_some hlookup) hunit sym
  have hside : g = ⟨.high, (wave p unit sym).1⟩ ∨ g = ⟨.low, (wave p unit sym).2⟩ := by
    simpa [waveSegments] using hsym
  rcases hside with rfl | rfl
  · exact hhigh.trans_lt (by decide)
  · exact hlow.trans_lt (by decide)

/-- While BUSY a segment is on the pin, and it and those left fit the time input, as the end of a legal train. -/
theorem State.Inv.exists_train {s : State} (h : s.Inv) (hbusy : s.status.busy = true) :
    ∃ g, s.tx.cur = some g ∧ ∀ g' ∈ g :: s.tx.rest, g'.duration < 2 ^ 32 := by
  obtain ⟨-, -, -, -, htrain, -⟩ := h
  obtain ⟨-, -, -, -, p, sent, g, hproto, hcur, hlatched⟩ := htrain hbusy
  exact ⟨g, hcur, fun g' hg' => duration_lt_of_mem_pulseTrain hproto (Nat.le_of_lt_succ s.tx.pulse.isLt)
    (hlatched ▸ List.mem_append_right sent hg')⟩

theorem State.Inv.efifo_of_busy {s : State} (h : s.Inv) (hbusy : s.status.busy = true) : s.efifo = [] := by
  obtain ⟨-, ⟨htx, -, hfifo, -⟩, -, -, -, -⟩ := h
  obtain ⟨hmode, -⟩ := htx hbusy
  exact hfifo (by simp [hmode])

/-- Due segment steps send a train to its end, and then no edge waits since the mode is TX. -/
theorem State.Inv.run_to_end_of_train {s : State} (h : s.Inv) (hbusy : s.status.busy = true) {g : Segment}
    (hcur : s.tx.cur = some g) (hfits : ∀ g' ∈ g :: s.tx.rest, g'.duration < 2 ^ 32) :
    ∃ t, Sys2Proof.core.run (s.tx.rest.length + 1) { s with pending := dueSteps s.tx.segStart (g :: s.tx.rest) } =
      .next t ∧ t.Quiescent ∧ t.status.mode = s.status.mode ∧ t.pending = [] := by
  obtain ⟨lastStart, now, hrun⟩ :=
    run_dueSteps (s := { s with pending := dueSteps s.tx.segStart (g :: s.tx.rest) }) hbusy hcur rfl hfits rfl
  exact ⟨_, hrun, ⟨rfl, h.efifo_of_busy hbusy⟩, rfl, rfl⟩

/-- Settles O59: a train is sent to its end; with no train running, the edges that wait are processed. -/
theorem theBlockCanAlwaysComeToRest : Obligations.TheBlockCanAlwaysComeToRest := by
  intro s h
  cases hbusy : s.status.busy with
  | true =>
    obtain ⟨g, hcur, hfits⟩ := h.exists_train hbusy
    obtain ⟨t, hrun, hrest⟩ := h.run_to_end_of_train hbusy hcur hfits
    have hlen : (dueSteps s.tx.segStart (g :: s.tx.rest)).length = s.tx.rest.length + 1 := length_dueSteps _ _
    refine ⟨dueSteps s.tx.segStart (g :: s.tx.rest), t, fun e he => (mem_dueSteps he).imp_right .inr, ?_, ?_, hrest⟩
    · omega
    · rw [hlen]
      exact hrun
  | false =>
    obtain ⟨t, hrun, hrest⟩ :=
      run_processings (s := { s with pending := processings s.nowUs s.efifo.length }) hbusy rfl rfl
    have hlen := length_processings s.nowUs s.efifo.length
    refine ⟨processings s.nowUs s.efifo.length, t, fun e he => (mem_processings he).imp_right .inl, ?_, ?_, hrest⟩
    · omega
    · rw [hlen]
      exact hrun

end Sys2Proof.Machine
